-- ==== Sys2Proof/Word.lean ====
section
/-! DEFINITION. Sys2Proof/Word.lean: the word, the narrower fields and the named constants (00_scope.md R6, R8, R10).
The spec numbers bits 1 (least significant) to 20; Lean numbers them 0 to 19. -/

namespace Sys2Proof

/-- The machine's unit of data and of instructions, 20 bits (R6). -/
abbrev Word := BitVec 20

/-- A store address, the width of the address field `Hi` (R6, R49). -/
abbrev Addr := BitVec 10

/-- What the half-register holds (R26). -/
abbrev HalfWord := BitVec 10

/-- A general-register index, 0..15 (R27). -/
abbrev GIndex := BitVec 4

/-- `UNIT = P(11)`: one addressing unit of the sequence register (R10). -/
abbrev unit : Word := 0x00400

/-- `ONE = P(1)` (R10). -/
abbrev wordOne : Word := 0x00001

/-- `SIGN = P(20)` (R10). -/
abbrev signWord : Word := 0x80000

end Sys2Proof
end

