-- ==== Sys2Proof/Config.lean ====
section
/-! DEFINITION. Sys2Proof/Config.lean: what is fixed for a machine or for a run (00_scope.md R6, R7).
The spec leaves no value of the core open (93_implementation_defined.md); the one free value is the host's, the
open parameter `host_input_schedule` (D6). -/

namespace Sys2Proof

/-- Words in each of the five stores (R6, R46). -/
def storeSize : Nat := 1024

/-- What a store cell that nothing has written reads as: 0 (R41; the spec's decision D5, log entry 9). -/
def unlistedWord : Word := 0

/-- The three output ports (R204). -/
inductive Port where
  | console
  | punch
  | speaker
  deriving DecidableEq, Repr

/-- How a port stands towards the core (R39, R204, R205; log entry 4). -/
inductive Sink where
  /-- Not connected: an emission does nothing and is no error (R204). -/
  | unconnected
  /-- Connected, and takes every word. -/
  | takesAll
  /-- Connected, takes `n` more words and then none: with `n = 0` it blocks (R205). -/
  | takes (n : Nat)
  deriving DecidableEq, Repr

/-- The launch parameter `run_mode` (R187, D24). -/
inductive RunMode where
  | free
  | paced
  deriving DecidableEq, Repr

/-- The values the host gives the input and switch registers at one moment (R34, R42, D6). -/
structure HostInputs where
  inp : Word
  swA : Word
  swB : Word
  deriving DecidableEq, Repr, Inhabited

/-- How the host goes on giving `In`, `SwA` and `SwB`, as plain data (R42, D6; log entry 6).  The three registers
themselves hold the values of the next step. -/
inductive InputSchedule where
  /-- The registers keep their values: the constant schedule of D6. -/
  | keep
  /-- The values of the step after the next are written out, and it goes on with the rest. -/
  | given (next : HostInputs) (rest : InputSchedule)
  /-- The step after the next has number `k`, and from it on the values are those of the launch parameter
  `host_input_schedule`, a function of the step number without an end. -/
  | parameter (k : Nat)
  deriving DecidableEq, Repr

/-- The launch parameter `host_input_schedule` that `step` takes: "a function from the step number" (R7, D6), left
OPEN by the spec, so it has no body here (log entry 6).  `stepWith` takes any other function in its place. -/
opaque Config.hostInputSchedule : Nat → HostInputs

end Sys2Proof
end

