-- ==== Sys2Proof/Syntax.lean ====
section
/-! DEFINITION. Sys2Proof/Syntax.lean: the operations and the instructions as syntax (30_encoding.md R72, R74, R75).

`Instr` has one constructor per row of spec/opcode_table.json, with the operand fields the row leaves open
(its pattern of letters): a source row leaves the address field and the destination field open, a destination
row the address field and the source field. Every 20-bit word matches exactly one source row and exactly one
destination row (R72), so a word has two readings as an `Instr`; Decode.lean picks one, and the meanings of
the two are the same (log entry 1). -/

namespace Sys2Proof

/-- The 32 source operations (R74), named as the spec's mnemonics; `inp` is `IN`. -/
inductive SrcOp where
  | m
  | inp
  | swa
  | swb
  | acc
  | accs
  | accr
  | accl
  | acc1
  | accz
  | accnz
  | mul
  | muls
  | mulr
  | aux
  | auxs
  | auxr
  | g
  | gs
  | gr
  | zero
  | half
  | halfu
  | seq
  | p11
  | one
  | lit
  | x1
  | x2
  | x3
  | x4
  | p20
  deriving DecidableEq, Repr

/-- The 32 destination operations (R75), named as the spec's mnemonics. -/
inductive DstOp where
  | m
  | nul1
  | print
  | punch
  | acc
  | add
  | sub
  | and
  | or
  | xor
  | speak
  | mul
  | mpy
  | shl
  | aux
  | auxadd
  | auxsub
  | g
  | gadd
  | gsub
  | nul2
  | half
  | halfu
  | jmp
  | jrel
  | skip
  | imod
  | x1
  | x2
  | x3
  | x4
  | stop
  deriving DecidableEq, Repr

/-- The two halves of the opcode table: its rows of format `src` and of format `dst` (R72). -/
inductive Format where
  | source
  | destination
  deriving DecidableEq, Repr

/-- One constructor per row of spec/opcode_table.json.  `a` is the address field `Hi(inst)`; the second
operand is the field the row leaves open, already decoded: the destination of a source row, the source of a
destination row. -/
inductive Instr where
  | srcM (a : Addr) (d : DstOp)
  | srcIn (a : Addr) (d : DstOp)
  | srcSwA (a : Addr) (d : DstOp)
  | srcSwB (a : Addr) (d : DstOp)
  | srcAcc (a : Addr) (d : DstOp)
  | srcAccS (a : Addr) (d : DstOp)
  | srcAccR (a : Addr) (d : DstOp)
  | srcAccL (a : Addr) (d : DstOp)
  | srcAcc1 (a : Addr) (d : DstOp)
  | srcAccZ (a : Addr) (d : DstOp)
  | srcAccNZ (a : Addr) (d : DstOp)
  | srcMul (a : Addr) (d : DstOp)
  | srcMulS (a : Addr) (d : DstOp)
  | srcMulR (a : Addr) (d : DstOp)
  | srcAux (a : Addr) (d : DstOp)
  | srcAuxS (a : Addr) (d : DstOp)
  | srcAuxR (a : Addr) (d : DstOp)
  | srcG (a : Addr) (d : DstOp)
  | srcGS (a : Addr) (d : DstOp)
  | srcGR (a : Addr) (d : DstOp)
  | srcZero (a : Addr) (d : DstOp)
  | srcHalf (a : Addr) (d : DstOp)
  | srcHalfU (a : Addr) (d : DstOp)
  | srcSeq (a : Addr) (d : DstOp)
  | srcP11 (a : Addr) (d : DstOp)
  | srcOne (a : Addr) (d : DstOp)
  | srcLit (a : Addr) (d : DstOp)
  | srcX1 (a : Addr) (d : DstOp)
  | srcX2 (a : Addr) (d : DstOp)
  | srcX3 (a : Addr) (d : DstOp)
  | srcX4 (a : Addr) (d : DstOp)
  | srcP20 (a : Addr) (d : DstOp)
  | dstM (a : Addr) (r : SrcOp)
  | dstNul1 (a : Addr) (r : SrcOp)
  | dstPrint (a : Addr) (r : SrcOp)
  | dstPunch (a : Addr) (r : SrcOp)
  | dstAcc (a : Addr) (r : SrcOp)
  | dstAdd (a : Addr) (r : SrcOp)
  | dstSub (a : Addr) (r : SrcOp)
  | dstAnd (a : Addr) (r : SrcOp)
  | dstOr (a : Addr) (r : SrcOp)
  | dstXor (a : Addr) (r : SrcOp)
  | dstSpeak (a : Addr) (r : SrcOp)
  | dstMul (a : Addr) (r : SrcOp)
  | dstMpy (a : Addr) (r : SrcOp)
  | dstShl (a : Addr) (r : SrcOp)
  | dstAux (a : Addr) (r : SrcOp)
  | dstAuxAdd (a : Addr) (r : SrcOp)
  | dstAuxSub (a : Addr) (r : SrcOp)
  | dstG (a : Addr) (r : SrcOp)
  | dstGAdd (a : Addr) (r : SrcOp)
  | dstGSub (a : Addr) (r : SrcOp)
  | dstNul2 (a : Addr) (r : SrcOp)
  | dstHalf (a : Addr) (r : SrcOp)
  | dstHalfU (a : Addr) (r : SrcOp)
  | dstJmp (a : Addr) (r : SrcOp)
  | dstJRel (a : Addr) (r : SrcOp)
  | dstSkip (a : Addr) (r : SrcOp)
  | dstIMod (a : Addr) (r : SrcOp)
  | dstX1 (a : Addr) (r : SrcOp)
  | dstX2 (a : Addr) (r : SrcOp)
  | dstX3 (a : Addr) (r : SrcOp)
  | dstX4 (a : Addr) (r : SrcOp)
  | dstStop (a : Addr) (r : SrcOp)
  deriving DecidableEq, Repr

namespace Instr

/-- Which half of the table the constructor's row stands in. -/
def format : Instr → Format
  | .srcM _ _ => .source
  | .srcIn _ _ => .source
  | .srcSwA _ _ => .source
  | .srcSwB _ _ => .source
  | .srcAcc _ _ => .source
  | .srcAccS _ _ => .source
  | .srcAccR _ _ => .source
  | .srcAccL _ _ => .source
  | .srcAcc1 _ _ => .source
  | .srcAccZ _ _ => .source
  | .srcAccNZ _ _ => .source
  | .srcMul _ _ => .source
  | .srcMulS _ _ => .source
  | .srcMulR _ _ => .source
  | .srcAux _ _ => .source
  | .srcAuxS _ _ => .source
  | .srcAuxR _ _ => .source
  | .srcG _ _ => .source
  | .srcGS _ _ => .source
  | .srcGR _ _ => .source
  | .srcZero _ _ => .source
  | .srcHalf _ _ => .source
  | .srcHalfU _ _ => .source
  | .srcSeq _ _ => .source
  | .srcP11 _ _ => .source
  | .srcOne _ _ => .source
  | .srcLit _ _ => .source
  | .srcX1 _ _ => .source
  | .srcX2 _ _ => .source
  | .srcX3 _ _ => .source
  | .srcX4 _ _ => .source
  | .srcP20 _ _ => .source
  | .dstM _ _ => .destination
  | .dstNul1 _ _ => .destination
  | .dstPrint _ _ => .destination
  | .dstPunch _ _ => .destination
  | .dstAcc _ _ => .destination
  | .dstAdd _ _ => .destination
  | .dstSub _ _ => .destination
  | .dstAnd _ _ => .destination
  | .dstOr _ _ => .destination
  | .dstXor _ _ => .destination
  | .dstSpeak _ _ => .destination
  | .dstMul _ _ => .destination
  | .dstMpy _ _ => .destination
  | .dstShl _ _ => .destination
  | .dstAux _ _ => .destination
  | .dstAuxAdd _ _ => .destination
  | .dstAuxSub _ _ => .destination
  | .dstG _ _ => .destination
  | .dstGAdd _ _ => .destination
  | .dstGSub _ _ => .destination
  | .dstNul2 _ _ => .destination
  | .dstHalf _ _ => .destination
  | .dstHalfU _ _ => .destination
  | .dstJmp _ _ => .destination
  | .dstJRel _ _ => .destination
  | .dstSkip _ _ => .destination
  | .dstIMod _ _ => .destination
  | .dstX1 _ _ => .destination
  | .dstX2 _ _ => .destination
  | .dstX3 _ _ => .destination
  | .dstX4 _ _ => .destination
  | .dstStop _ _ => .destination

/-- The address field, bits 20..11 (R66). -/
def addr : Instr → Addr
  | .srcM a _ => a
  | .srcIn a _ => a
  | .srcSwA a _ => a
  | .srcSwB a _ => a
  | .srcAcc a _ => a
  | .srcAccS a _ => a
  | .srcAccR a _ => a
  | .srcAccL a _ => a
  | .srcAcc1 a _ => a
  | .srcAccZ a _ => a
  | .srcAccNZ a _ => a
  | .srcMul a _ => a
  | .srcMulS a _ => a
  | .srcMulR a _ => a
  | .srcAux a _ => a
  | .srcAuxS a _ => a
  | .srcAuxR a _ => a
  | .srcG a _ => a
  | .srcGS a _ => a
  | .srcGR a _ => a
  | .srcZero a _ => a
  | .srcHalf a _ => a
  | .srcHalfU a _ => a
  | .srcSeq a _ => a
  | .srcP11 a _ => a
  | .srcOne a _ => a
  | .srcLit a _ => a
  | .srcX1 a _ => a
  | .srcX2 a _ => a
  | .srcX3 a _ => a
  | .srcX4 a _ => a
  | .srcP20 a _ => a
  | .dstM a _ => a
  | .dstNul1 a _ => a
  | .dstPrint a _ => a
  | .dstPunch a _ => a
  | .dstAcc a _ => a
  | .dstAdd a _ => a
  | .dstSub a _ => a
  | .dstAnd a _ => a
  | .dstOr a _ => a
  | .dstXor a _ => a
  | .dstSpeak a _ => a
  | .dstMul a _ => a
  | .dstMpy a _ => a
  | .dstShl a _ => a
  | .dstAux a _ => a
  | .dstAuxAdd a _ => a
  | .dstAuxSub a _ => a
  | .dstG a _ => a
  | .dstGAdd a _ => a
  | .dstGSub a _ => a
  | .dstNul2 a _ => a
  | .dstHalf a _ => a
  | .dstHalfU a _ => a
  | .dstJmp a _ => a
  | .dstJRel a _ => a
  | .dstSkip a _ => a
  | .dstIMod a _ => a
  | .dstX1 a _ => a
  | .dstX2 a _ => a
  | .dstX3 a _ => a
  | .dstX4 a _ => a
  | .dstStop a _ => a

/-- The source operation, bits 10..6 (R66). -/
def srcOp : Instr → SrcOp
  | .srcM _ _ => .m
  | .srcIn _ _ => .inp
  | .srcSwA _ _ => .swa
  | .srcSwB _ _ => .swb
  | .srcAcc _ _ => .acc
  | .srcAccS _ _ => .accs
  | .srcAccR _ _ => .accr
  | .srcAccL _ _ => .accl
  | .srcAcc1 _ _ => .acc1
  | .srcAccZ _ _ => .accz
  | .srcAccNZ _ _ => .accnz
  | .srcMul _ _ => .mul
  | .srcMulS _ _ => .muls
  | .srcMulR _ _ => .mulr
  | .srcAux _ _ => .aux
  | .srcAuxS _ _ => .auxs
  | .srcAuxR _ _ => .auxr
  | .srcG _ _ => .g
  | .srcGS _ _ => .gs
  | .srcGR _ _ => .gr
  | .srcZero _ _ => .zero
  | .srcHalf _ _ => .half
  | .srcHalfU _ _ => .halfu
  | .srcSeq _ _ => .seq
  | .srcP11 _ _ => .p11
  | .srcOne _ _ => .one
  | .srcLit _ _ => .lit
  | .srcX1 _ _ => .x1
  | .srcX2 _ _ => .x2
  | .srcX3 _ _ => .x3
  | .srcX4 _ _ => .x4
  | .srcP20 _ _ => .p20
  | .dstM _ r => r
  | .dstNul1 _ r => r
  | .dstPrint _ r => r
  | .dstPunch _ r => r
  | .dstAcc _ r => r
  | .dstAdd _ r => r
  | .dstSub _ r => r
  | .dstAnd _ r => r
  | .dstOr _ r => r
  | .dstXor _ r => r
  | .dstSpeak _ r => r
  | .dstMul _ r => r
  | .dstMpy _ r => r
  | .dstShl _ r => r
  | .dstAux _ r => r
  | .dstAuxAdd _ r => r
  | .dstAuxSub _ r => r
  | .dstG _ r => r
  | .dstGAdd _ r => r
  | .dstGSub _ r => r
  | .dstNul2 _ r => r
  | .dstHalf _ r => r
  | .dstHalfU _ r => r
  | .dstJmp _ r => r
  | .dstJRel _ r => r
  | .dstSkip _ r => r
  | .dstIMod _ r => r
  | .dstX1 _ r => r
  | .dstX2 _ r => r
  | .dstX3 _ r => r
  | .dstX4 _ r => r
  | .dstStop _ r => r

/-- The destination operation, bits 5..1 (R66). -/
def dstOp : Instr → DstOp
  | .srcM _ d => d
  | .srcIn _ d => d
  | .srcSwA _ d => d
  | .srcSwB _ d => d
  | .srcAcc _ d => d
  | .srcAccS _ d => d
  | .srcAccR _ d => d
  | .srcAccL _ d => d
  | .srcAcc1 _ d => d
  | .srcAccZ _ d => d
  | .srcAccNZ _ d => d
  | .srcMul _ d => d
  | .srcMulS _ d => d
  | .srcMulR _ d => d
  | .srcAux _ d => d
  | .srcAuxS _ d => d
  | .srcAuxR _ d => d
  | .srcG _ d => d
  | .srcGS _ d => d
  | .srcGR _ d => d
  | .srcZero _ d => d
  | .srcHalf _ d => d
  | .srcHalfU _ d => d
  | .srcSeq _ d => d
  | .srcP11 _ d => d
  | .srcOne _ d => d
  | .srcLit _ d => d
  | .srcX1 _ d => d
  | .srcX2 _ d => d
  | .srcX3 _ d => d
  | .srcX4 _ d => d
  | .srcP20 _ d => d
  | .dstM _ _ => .m
  | .dstNul1 _ _ => .nul1
  | .dstPrint _ _ => .print
  | .dstPunch _ _ => .punch
  | .dstAcc _ _ => .acc
  | .dstAdd _ _ => .add
  | .dstSub _ _ => .sub
  | .dstAnd _ _ => .and
  | .dstOr _ _ => .or
  | .dstXor _ _ => .xor
  | .dstSpeak _ _ => .speak
  | .dstMul _ _ => .mul
  | .dstMpy _ _ => .mpy
  | .dstShl _ _ => .shl
  | .dstAux _ _ => .aux
  | .dstAuxAdd _ _ => .auxadd
  | .dstAuxSub _ _ => .auxsub
  | .dstG _ _ => .g
  | .dstGAdd _ _ => .gadd
  | .dstGSub _ _ => .gsub
  | .dstNul2 _ _ => .nul2
  | .dstHalf _ _ => .half
  | .dstHalfU _ _ => .halfu
  | .dstJmp _ _ => .jmp
  | .dstJRel _ _ => .jrel
  | .dstSkip _ _ => .skip
  | .dstIMod _ _ => .imod
  | .dstX1 _ _ => .x1
  | .dstX2 _ _ => .x2
  | .dstX3 _ _ => .x3
  | .dstX4 _ _ => .x4
  | .dstStop _ _ => .stop

end Instr

end Sys2Proof
end

