-- ==== Sys2Proof/WellFormed.lean ====
section
/-! DEFINITION. Sys2Proof/WellFormed.lean: which of a word's two readings is the decoder's (log entry 1).
The types already bound every field (10, 5 and 5 bits, R66), so no operand can be out of range; the one check
left is that a term is the reading the decoder gives. -/

namespace Sys2Proof

/-- The half of the opcode table the decoder reads a word by, from its destination operation: the source row
when the destination field is 0 (then every row of format `src` with no other bit set is read by itself), the
destination row otherwise.  The choice has no effect on what a word does (log entry 1). -/
def readingOf (d : DstOp) : Format := if d = .m then .source else .destination

/-- The term is the reading the decoder gives of its word.  A term that is not is the other reading of the same
word and has the same meaning. -/
def Instr.wellFormed (i : Instr) : Bool := decide (i.format = readingOf i.dstOp)

end Sys2Proof
end

