-- ==== Sys2Proof/Decode.lean ====
section
/-! DEFINITION. Sys2Proof/Decode.lean: the fields of a word, the decoder, and after it the encoder
(00_scope.md R11, R12; 30_encoding.md R66, R72 to R75).  Conflict C1 is followed: the address field is
bits 20..11. -/

namespace Sys2Proof

/-! ## Fields of a word (R8, R11) -/

/-- `Hi(w) = w[20:11]`. -/
def hi (w : Word) : Addr := w.extractLsb' 10 10

/-- `Lo(w) = w[10:1]`. -/
def lo (w : Word) : BitVec 10 := w.extractLsb' 0 10

/-- `Src(w) = w[10:6]`. -/
def srcField (w : Word) : BitVec 5 := w.extractLsb' 5 5

/-- `Dst(w) = w[5:1]`. -/
def dstField (w : Word) : BitVec 5 := w.extractLsb' 0 5

/-- `Sign(w) = w[20:20]`. -/
def sign (w : Word) : Bool := w.getLsbD 19

/-- `sval(w)`: the word read as a two's-complement integer (R12, conflicts C2 and C3). -/
def sval (w : Word) : Int := if sign w then (w.toNat : Int) - 2 ^ 20 else w.toNat

/-- `OnesCount(w)`: how many of bits 1..20 are set (R11; no operation uses it). -/
def onesCount (w : Word) : Nat := ((List.range 20).filter w.getLsbD).length

/-! ## The opcode map (R74, R75) -/

/-- The source operations in the order of their codes (R74). -/
def srcTable : Vector SrcOp 32 := #v[
  .m, .inp, .swa, .swb, .acc, .accs, .accr, .accl,
  .acc1, .accz, .accnz, .mul, .muls, .mulr, .aux, .auxs,
  .auxr, .g, .gs, .gr, .zero, .half, .halfu, .seq,
  .p11, .one, .lit, .x1, .x2, .x3, .x4, .p20]

/-- The destination operations in the order of their codes (R75). -/
def dstTable : Vector DstOp 32 := #v[
  .m, .nul1, .print, .punch, .acc, .add, .sub, .and,
  .or, .xor, .speak, .mul, .mpy, .shl, .aux, .auxadd,
  .auxsub, .g, .gadd, .gsub, .nul2, .half, .halfu, .jmp,
  .jrel, .skip, .imod, .x1, .x2, .x3, .x4, .stop]

/-- The source operation a 5-bit field selects: every value selects one (R73). -/
def SrcOp.ofCode (k : BitVec 5) : SrcOp := srcTable[k.toNat]'k.isLt

/-- The destination operation a 5-bit field selects: every value selects one (R73). -/
def DstOp.ofCode (k : BitVec 5) : DstOp := dstTable[k.toNat]'k.isLt

/-- The source row with these fields, as an instruction. -/
def sourceReading (a : Addr) (r : SrcOp) (d : DstOp) : Instr :=
  match r with
  | .m => .srcM a d
  | .inp => .srcIn a d
  | .swa => .srcSwA a d
  | .swb => .srcSwB a d
  | .acc => .srcAcc a d
  | .accs => .srcAccS a d
  | .accr => .srcAccR a d
  | .accl => .srcAccL a d
  | .acc1 => .srcAcc1 a d
  | .accz => .srcAccZ a d
  | .accnz => .srcAccNZ a d
  | .mul => .srcMul a d
  | .muls => .srcMulS a d
  | .mulr => .srcMulR a d
  | .aux => .srcAux a d
  | .auxs => .srcAuxS a d
  | .auxr => .srcAuxR a d
  | .g => .srcG a d
  | .gs => .srcGS a d
  | .gr => .srcGR a d
  | .zero => .srcZero a d
  | .half => .srcHalf a d
  | .halfu => .srcHalfU a d
  | .seq => .srcSeq a d
  | .p11 => .srcP11 a d
  | .one => .srcOne a d
  | .lit => .srcLit a d
  | .x1 => .srcX1 a d
  | .x2 => .srcX2 a d
  | .x3 => .srcX3 a d
  | .x4 => .srcX4 a d
  | .p20 => .srcP20 a d

/-- The destination row with these fields, as an instruction. -/
def destinationReading (a : Addr) (r : SrcOp) (d : DstOp) : Instr :=
  match d with
  | .m => .dstM a r
  | .nul1 => .dstNul1 a r
  | .print => .dstPrint a r
  | .punch => .dstPunch a r
  | .acc => .dstAcc a r
  | .add => .dstAdd a r
  | .sub => .dstSub a r
  | .and => .dstAnd a r
  | .or => .dstOr a r
  | .xor => .dstXor a r
  | .speak => .dstSpeak a r
  | .mul => .dstMul a r
  | .mpy => .dstMpy a r
  | .shl => .dstShl a r
  | .aux => .dstAux a r
  | .auxadd => .dstAuxAdd a r
  | .auxsub => .dstAuxSub a r
  | .g => .dstG a r
  | .gadd => .dstGAdd a r
  | .gsub => .dstGSub a r
  | .nul2 => .dstNul2 a r
  | .half => .dstHalf a r
  | .halfu => .dstHalfU a r
  | .jmp => .dstJmp a r
  | .jrel => .dstJRel a r
  | .skip => .dstSkip a r
  | .imod => .dstIMod a r
  | .x1 => .dstX1 a r
  | .x2 => .dstX2 a r
  | .x3 => .dstX3 a r
  | .x4 => .dstX4 a r
  | .stop => .dstStop a r

/-- The word read by one half of the opcode table: "A decoder selects exactly one source row and exactly one
destination row for any word" (R72). -/
def decodeAs (f : Format) (w : Word) : Instr :=
  match f with
  | .source => sourceReading (hi w) (SrcOp.ofCode (srcField w)) (DstOp.ofCode (dstField w))
  | .destination => destinationReading (hi w) (SrcOp.ofCode (srcField w)) (DstOp.ofCode (dstField w))

/-- THE DECODER, total on words (R68, R73, R76).  Of the word's two readings it gives the one `readingOf` names
(log entry 1): a word whose destination field is 0 by its source row, every other word by its destination
row. -/
def decode (w : Word) : Instr := decodeAs (readingOf (DstOp.ofCode (dstField w))) w

/-- Why a bit pattern is not decoded: a pattern that does not fit 20 bits is no word of this machine
(R6, R66).  No word is rejected (R73, R76). -/
inductive DecodeError where
  | notAWord (pattern : Nat)
  deriving DecidableEq, Repr

/-- The decoder on any bit pattern, by one half of the table: rejects by name a pattern wider than a word. -/
def decodePattern (f : Word → Format) (n : Nat) : Except DecodeError Instr :=
  if n < 2 ^ 20 then .ok (decodeAs (f (BitVec.ofNat 20 n)) (BitVec.ofNat 20 n)) else .error (.notAWord n)

/-- What the host's table check asks: the instruction the decoder reads from the low `nbits` bits of `w`, the
bits above them zero.  A row that is given fewer than 10 bits has no room for a source field (bits 9..5
counted from 0), so it is a destination row and the word is read by that half of the table; otherwise the
decoder's own choice stands (log entry 1). -/
def decodeTableWord (nbits w : Nat) : Option Instr :=
  match decodePattern
      (fun x => if nbits < 10 then .destination else readingOf (DstOp.ofCode (dstField x))) (w % 2 ^ nbits) with
  | .ok i => some i
  | .error _ => none

/-! ## The encoder -/

/-- The code of a source operation (R74). -/
def SrcOp.code : SrcOp → BitVec 5
  | .m => 0
  | .inp => 1
  | .swa => 2
  | .swb => 3
  | .acc => 4
  | .accs => 5
  | .accr => 6
  | .accl => 7
  | .acc1 => 8
  | .accz => 9
  | .accnz => 10
  | .mul => 11
  | .muls => 12
  | .mulr => 13
  | .aux => 14
  | .auxs => 15
  | .auxr => 16
  | .g => 17
  | .gs => 18
  | .gr => 19
  | .zero => 20
  | .half => 21
  | .halfu => 22
  | .seq => 23
  | .p11 => 24
  | .one => 25
  | .lit => 26
  | .x1 => 27
  | .x2 => 28
  | .x3 => 29
  | .x4 => 30
  | .p20 => 31

/-- The code of a destination operation (R75). -/
def DstOp.code : DstOp → BitVec 5
  | .m => 0
  | .nul1 => 1
  | .print => 2
  | .punch => 3
  | .acc => 4
  | .add => 5
  | .sub => 6
  | .and => 7
  | .or => 8
  | .xor => 9
  | .speak => 10
  | .mul => 11
  | .mpy => 12
  | .shl => 13
  | .aux => 14
  | .auxadd => 15
  | .auxsub => 16
  | .g => 17
  | .gadd => 18
  | .gsub => 19
  | .nul2 => 20
  | .half => 21
  | .halfu => 22
  | .jmp => 23
  | .jrel => 24
  | .skip => 25
  | .imod => 26
  | .x1 => 27
  | .x2 => 28
  | .x3 => 29
  | .x4 => 30
  | .stop => 31

/-- `(Hi << 10) | (Src << 5) | Dst` (R66). -/
def encodeFields (a : Addr) (r : SrcOp) (d : DstOp) : Word :=
  (a.setWidth 20 <<< 10) ||| (r.code.setWidth 20 <<< 5) ||| d.code.setWidth 20

/-- The word of an instruction. -/
def encode (i : Instr) : Word := encodeFields i.addr i.srcOp i.dstOp

end Sys2Proof
end

