-- ==== Sys2Proof/Machine/Arith.lean ====
section
/-! DEFINITION. Sys2Proof/Machine/Arith.lean: what the arithmetic unit, the multiply unit and the combined shifter
compute (42_dest_arith.md).  Add, subtract and the logic operations act on words modulo `2^20`; the multiply
unit alone reads a word as a sign and a 19-bit magnitude (R166, C2). -/

namespace Sys2Proof.Machine

/-- `wrap20(x + y)` (R9, R166). -/
def add20 (x y : Word) : Word := x + y

/-- `wrap20(x - y)` (R9, R166). -/
def sub20 (x y : Word) : Word := x - y

/-- `(w >> 1) | (w & 0x80000)`: the sign bit is replicated (R92). -/
def shiftRightArith (w : Word) : Word := (w >>> 1) ||| (w &&& signWord)

/-- The 19-bit magnitude of a word, bits 19..1 (R158). -/
def magnitude (w : Word) : Nat := w.toNat &&& 0x7FFFF

/-- The 38-bit unsigned product of the magnitudes (R158). -/
def product (v aux : Word) : Nat := magnitude v * magnitude aux

/-- The sign of the product, exclusive OR of the operands' signs (R158). -/
def productSign (v aux : Word) : Bool := sign v ^^ sign aux

/-- `high <- (s << 19) | (p >> 19)` (R158; the sign in bit 20 is the spec's decision D2, log entry 12). -/
def productHigh (v aux : Word) : Word :=
  BitVec.ofNat 20 (((productSign v aux).toNat <<< 19) ||| (product v aux >>> 19))

/-- `mask20((p & 0x7FFFF) << 1)` (R158). -/
def productLow (v aux : Word) : Word := BitVec.ofNat 20 ((product v aux &&& 0x7FFFF) <<< 1)

/-- `n <- ((Hi(v) >> 1) & 0xF) + 1`, in 1..16 (R161, R162, C4). -/
def shiftCount (v : Word) : Nat := ((hi v >>> 1) &&& 0xF).toNat + 1

/-- `mask20((x << n) | (y >> (20 - n)))`: one register of the pair after the rotation (R161). -/
def rotateFirst (n : Nat) (x y : Word) : Word := (x <<< n) ||| (y >>> (20 - n))

end Sys2Proof.Machine
end

