-- ==== Sys2Proof/Machine/Flags.lean ====
section
/-! DEFINITION. Sys2Proof/Machine/Flags.lean: the conditions a program can test.  The core has no flags and no
operation writes one (10_state.md R36): "Conditional behaviour comes from the values themselves", so what stands
here are the values of the test sources and the conditions of destinations 25 and 31. -/

namespace Sys2Proof.Machine

/-- The sign bit left in its place: `0x80000` or 0 (R91, R101, R104, R121). -/
def signInPlace (w : Word) : Word := w &&& signWord

/-- The sign bit moved to bit 1: 1 or 0 (R98, R121). -/
def signAtBit1 (w : Word) : Word := (w >>> 19) &&& 1

/-- 1 when the word is not zero, else 0 (R96; the polarity is the spec's decision D11, log entry 13). -/
def nonZeroTest (w : Word) : Word := if w ≠ 0 then 1 else 0

/-- Range 1 of destination 25, bits 11..1, is not zero (R173). -/
def lowRangeSet (v : Word) : Bool := decide (v &&& 0x007FF ≠ 0)

/-- Range 2 of destination 25, bits 20..15, is not zero (R173). -/
def highRangeSet (v : Word) : Bool := decide (v &&& 0xFC000 ≠ 0)

/-- Destination 31 signals a stop (R175). -/
def stopRequested (v : Word) : Bool := decide (v ≠ 0)

end Sys2Proof.Machine
end

