-- ==== Sys2Proof/Machine/State.lean ====
section
/-! DEFINITION. Sys2Proof/Machine/State.lean: the state, the reasons a step can stop, and the state after reset
(10_state.md R21, R35, R39, R41; 60_exceptions.md R204, R205). -/

namespace Sys2Proof.Machine

/-- A store: (address, word) pairs in one canonical form (`Memory.wf`); an address not listed reads
`unlistedWord` (R46, R51; log entries 9, 22). -/
abbrev Memory := List (Nat × Word)

/-- The five stores (R46). -/
inductive StoreId where
  | main
  | x1
  | x2
  | x3
  | x4
  deriving DecidableEq, Repr

/-- The run state, the core's halt output (R35, R200). -/
inductive RunState where
  | running
  | stopped
  deriving DecidableEq, Repr

/-- One event on an output port (R204). -/
structure PortEvent where
  port : Port
  word : Word
  deriving DecidableEq, Repr

/-- How each port stands towards the core (R39, R204, R205). -/
structure Ports where
  console : Sink
  punch : Sink
  speaker : Sink
  deriving DecidableEq, Repr

/-- The state.  `acc` to `x4` are the spec's (R21); `ports`, `schedule`, `runMode` are the launch inputs of R7 and
`output` is the record R204 asks of a model (log entries 4 to 7, 23). -/
structure State where
  acc : Word
  mul : Word
  aux : Word
  half : HalfWord
  g : Vector Word 16
  seq : Word
  ir : Word
  inp : Word
  swA : Word
  swB : Word
  run : RunState
  main : Memory
  x1 : Memory
  x2 : Memory
  x3 : Memory
  x4 : Memory
  ports : Ports
  schedule : InputSchedule
  runMode : RunMode
  output : List PortEvent
  deriving DecidableEq, Repr

/-- Why no next state exists. -/
inductive Fault where
  /-- Raised by `step` on a machine that is already `Stopped`: "In `Stopped` no step is possible" (R185).
  Not an error of the machine: it is how the outcome type says that the run has ended (log entry 2).  Safe. -/
  | stopped
  /-- Raised by `emit`: the connected port does not take the word, so the step never completes (R205, I3 "A model
  with a port that never accepts has no next state"; log entry 3).  Safe. -/
  | portBlocked (port : Port)
  deriving DecidableEq, Repr

/-- Why an instruction has no meaning. -/
inductive Refusal where
  /-- An arm of `exec` not written yet.  No arm raises it: every row has its meaning.  Safe. -/
  | notModelled (mnemonic : String)
  deriving DecidableEq, Repr

/-- The three outcomes of an operation or a step. -/
abbrev Result := Host.Outcome State Fault Refusal

namespace State

/-- Reset (R41, R216): every register 0, `S` and `I` too, the stores with nothing listed, `Running`.  The spec's
own choices: D4, D5, D6 (log entries 8, 9, 10).  The launch inputs: log entries 5, 7 (DESIGN CHOICE). -/
def reset : State where
  acc := 0
  mul := 0
  aux := 0
  half := 0
  g := Vector.replicate 16 0
  seq := 0
  ir := 0
  inp := 0
  swA := 0
  swB := 0
  run := .running
  main := []
  x1 := []
  x2 := []
  x3 := []
  x4 := []
  ports := { console := .takesAll, punch := .takesAll, speaker := .takesAll }
  schedule := .keep
  runMode := .free
  output := []

/-! ## Named updates (their lemmas: Laws/State.lean) -/

def setAcc (s : State) (v : Word) : State := { s with acc := v }
def setMul (s : State) (v : Word) : State := { s with mul := v }
def setAux (s : State) (v : Word) : State := { s with aux := v }
def setHalf (s : State) (v : HalfWord) : State := { s with half := v }
def setGs (s : State) (v : Vector Word 16) : State := { s with g := v }
def setSeq (s : State) (v : Word) : State := { s with seq := v }
def setIr (s : State) (v : Word) : State := { s with ir := v }
def setInputs (s : State) (i : HostInputs) : State := { s with inp := i.inp, swA := i.swA, swB := i.swB }
def setRun (s : State) (r : RunState) : State := { s with run := r }
def setPorts (s : State) (p : Ports) : State := { s with ports := p }
def setSchedule (s : State) (l : InputSchedule) : State := { s with schedule := l }
def setRunMode (s : State) (m : RunMode) : State := { s with runMode := m }
def setOutput (s : State) (l : List PortEvent) : State := { s with output := l }

/-- The contents of one store. -/
def storeOf (s : State) : StoreId → Memory
  | .main => s.main
  | .x1 => s.x1
  | .x2 => s.x2
  | .x3 => s.x3
  | .x4 => s.x4

/-- Replace the contents of one store. -/
def setStore (s : State) (k : StoreId) (m : Memory) : State :=
  match k with
  | .main => { s with main := m }
  | .x1 => { s with x1 := m }
  | .x2 => { s with x2 := m }
  | .x3 => { s with x3 := m }
  | .x4 => { s with x4 := m }

end State

end Sys2Proof.Machine
end

