-- ==== Sys2Proof/Machine/Ops.lean ====
section
/-! DEFINITION. Sys2Proof/Machine/Ops.lean: the named operations over the stores, the registers, the sequence
register, the ports and the run state, and the order of one instruction.

There is no operation for taking an exception or returning from one: the core raises none, has no interrupt, no
trap entry and no return (60_exceptions.md R196, R197, R199). -/

namespace Sys2Proof.Machine

/-! ## Stores (20_memory.md R46 to R55) -/

namespace Memory

/-- The word at an address (R47, R48); an address not listed reads `unlistedWord` (D5). -/
def read : Memory → Nat → Word
  | [], _ => unlistedWord
  | (k, x) :: m, a => if k = a then x else read m a

/-- Drop the entry of an address. -/
def erase (m : Memory) (a : Nat) : Memory := m.filter (fun c => decide (c.1 ≠ a))

/-- Put an entry before the first one of a larger address. -/
def insert : Memory → Nat → Word → Memory
  | [], a, v => [(a, v)]
  | (k, x) :: m, a, v => if a < k then (a, v) :: (k, x) :: m else (k, x) :: insert m a v

/-- Replace the word at an address, keeping the canonical form: writing what an unlisted address reads as removes
the entry. -/
def write (m : Memory) (a : Nat) (v : Word) : Memory :=
  if v = unlistedWord then erase m a else insert (erase m a) a v

/-- THE CANONICAL FORM: addresses strictly rising and inside the store, no entry equal to what an unlisted
address reads as. -/
def wf : Memory → Bool
  | [] => true
  | (k, x) :: m => decide (k < storeSize) && decide (x ≠ unlistedWord) && m.all (fun c => decide (k < c.1)) && wf m

end Memory

/-- All five stores are in canonical form. -/
def State.wf (s : State) : Bool := s.main.wf && s.x1.wf && s.x2.wf && s.x3.wf && s.x4.wf

/-- `MemRead(a, 1)` and `AuxRead(k, a)`: every address is valid (R47 to R50). -/
def memRead (k : StoreId) (a : Addr) (s : State) : Word := (s.storeOf k).read a.toNat

/-- `MemWrite(a, 1, v)` and `AuxWrite(k, a, v)` (R47 to R50). -/
def memWrite (k : StoreId) (a : Addr) (v : Word) (s : State) : State := s.setStore k ((s.storeOf k).write a.toNat v)

/-! ## General registers (10_state.md R27) -/

/-- `g = Hi(inst) & 0xF` (R27; for the five operations beside source 17 the spec's decision D7, log entry 11). -/
def gIndex (a : Addr) : GIndex := a.extractLsb' 0 4

/-- Read `G[g]`. -/
def readG (g : GIndex) (s : State) : Word := s.g[g.toNat]'g.isLt

/-- Write `G[g]`. -/
def writeG (g : GIndex) (v : Word) (s : State) : State := s.setGs (s.g.set g.toNat v g.isLt)

/-! ## Sequence register and instruction register (10_state.md R29 to R33) -/

/-- `S <- wrap20(S + UNIT)` (R30, R31). -/
def advance (s : State) : State := s.setSeq (add20 s.seq unit)

/-- One more unit if the condition holds (R173). -/
def advanceIf (c : Bool) (s : State) : State := if c then advance s else s

/-- `I <- MemRead(Hi(S), 1)` (R33, R176). -/
def fetch (s : State) : State := s.setIr (memRead .main (hi s.seq) s)

/-! ## Output ports (60_exceptions.md R204, R205) -/

/-- How a port stands. -/
def Ports.get (p : Ports) : Port → Sink
  | .console => p.console
  | .punch => p.punch
  | .speaker => p.speaker

/-- Change how a port stands. -/
def Ports.set (p : Ports) (port : Port) (k : Sink) : Ports :=
  match port with
  | .console => { p with console := k }
  | .punch => { p with punch := k }
  | .speaker => { p with speaker := k }

/-- Append one event to the output history (R204). -/
def record (port : Port) (v : Word) (s : State) : State := s.setOutput (s.output ++ [{ port := port, word := v }])

/-- `Emit(port, v)`: nothing on an unconnected port (R204, D21), one event on a port that takes the word, and no
next state when the port does not take it (R205). -/
def emit (port : Port) (v : Word) (s : State) : Result :=
  match s.ports.get port with
  | .unconnected => .next s
  | .takesAll => .next (record port v s)
  | .takes 0 => .fault (.portBlocked port)
  | .takes (n + 1) => .next ((record port v s).setPorts (s.ports.set port (.takes n)))

/-! ## Run state (10_state.md R35) -/

/-- `signal Stop`: the step ends in `Stopped` (R175, R184). -/
def signalStop (s : State) : State := s.setRun .stopped

/-! ## The order of one instruction (44_cycle.md R181, R183) -/

/-- Actions 2 to 6 of the step: the source operation gives `v`, `S` advances by one unit, the default fetch loads
`I`, the destination operation runs on `v`. -/
def runInstr (source : State → Word × State) (dest : Word → State → Result) (s : State) : Result :=
  dest (source s).1 (fetch (advance (source s).2))

/-! ## The host between steps (10_state.md R42, 60_exceptions.md R212) -/

/-- Between two steps the host gives `In`, `SwA`, `SwB` the values its schedule has for the next step; `f` is the
launch parameter `host_input_schedule` (D6, log entry 6).  In `Stopped` nothing changes the state (R185). -/
def hostBetweenSteps (f : Nat → HostInputs) (s : State) : State :=
  match s.run, s.schedule with
  | .running, .given i rest => (s.setInputs i).setSchedule rest
  | .running, .parameter k => (s.setInputs (f k)).setSchedule (.parameter (k + 1))
  | .running, .keep => s
  | .stopped, _ => s

end Sys2Proof.Machine
end

