-- ==== Sys2Proof/Machine/Operands.lean ====
section
/-! DEFINITION. Sys2Proof/Machine/Operands.lean: the 32 source operations, the only operand forms of the machine
(40_source.md; 30_encoding.md R69 to R71).  Each takes the address field `a = Hi(inst)` and the state at the
start of the step (R120), and gives the value `v` and the state it leaves: the same state for every source but
9, which clears `Acc` (R95, R118). -/

namespace Sys2Proof.Machine

/-- Source 0, `M` (R86): `v <- MemRead(a, 1)`. -/
def sourceM (a : Addr) (s : State) : Word × State := (memRead .main a s, s)

/-- Source 1, `IN` (R87): `v <- In`; the read does not change `In`. -/
def sourceIn (_a : Addr) (s : State) : Word × State := (s.inp, s)

/-- Source 2, `SWA` (R88): `v <- SwA`. -/
def sourceSwA (_a : Addr) (s : State) : Word × State := (s.swA, s)

/-- Source 3, `SWB` (R89): `v <- SwB`. -/
def sourceSwB (_a : Addr) (s : State) : Word × State := (s.swB, s)

/-- Source 4, `ACC` (R90): `v <- Acc`. -/
def sourceAcc (_a : Addr) (s : State) : Word × State := (s.acc, s)

/-- Source 5, `ACCS` (R91): `v <- Acc & 0x80000`. -/
def sourceAccS (_a : Addr) (s : State) : Word × State := (signInPlace s.acc, s)

/-- Source 6, `ACCR` (R92): `v <- (Acc >> 1) | (Acc & 0x80000)`. -/
def sourceAccR (_a : Addr) (s : State) : Word × State := (shiftRightArith s.acc, s)

/-- Source 7, `ACCL` (R93): `v <- mask20(Acc << 1)`. -/
def sourceAccL (_a : Addr) (s : State) : Word × State := (s.acc <<< 1, s)

/-- Source 8, `ACC1` (R94): `v <- Acc & 0x00001`. -/
def sourceAcc1 (_a : Addr) (s : State) : Word × State := (s.acc &&& wordOne, s)

/-- Source 9, `ACCZ` (R95): `v <- Acc; Acc <- 0`, the one source that writes state. -/
def sourceAccZ (_a : Addr) (s : State) : Word × State := (s.acc, s.setAcc 0)

/-- Source 10, `ACCNZ` (R96): 1 if `Acc != 0`, else 0 (the spec's decision D11). -/
def sourceAccNZ (_a : Addr) (s : State) : Word × State := (nonZeroTest s.acc, s)

/-- Source 11, `MUL` (R97): `v <- Mul`. -/
def sourceMul (_a : Addr) (s : State) : Word × State := (s.mul, s)

/-- Source 12, `MULS` (R98): `v <- Mul[20:20]`, the sign moved to bit 1. -/
def sourceMulS (_a : Addr) (s : State) : Word × State := (signAtBit1 s.mul, s)

/-- Source 13, `MULR` (R99): `v <- Mul >> 1`, logical. -/
def sourceMulR (_a : Addr) (s : State) : Word × State := (s.mul >>> 1, s)

/-- Source 14, `AUX` (R100): `v <- Aux`. -/
def sourceAux (_a : Addr) (s : State) : Word × State := (s.aux, s)

/-- Source 15, `AUXS` (R101): `v <- Aux & 0x80000`. -/
def sourceAuxS (_a : Addr) (s : State) : Word × State := (signInPlace s.aux, s)

/-- Source 16, `AUXR` (R102): `v <- Aux >> 1`, logical. -/
def sourceAuxR (_a : Addr) (s : State) : Word × State := (s.aux >>> 1, s)

/-- Source 17, `G` (R103): `v <- G[g]`. -/
def sourceG (a : Addr) (s : State) : Word × State := (readG (gIndex a) s, s)

/-- Source 18, `GS` (R104): `v <- G[g] & 0x80000` (the spec's decision D12). -/
def sourceGS (a : Addr) (s : State) : Word × State := (signInPlace (readG (gIndex a) s), s)

/-- Source 19, `GR` (R105): `v <- G[g] >> 1`, logical (the spec's decision D13). -/
def sourceGR (a : Addr) (s : State) : Word × State := (readG (gIndex a) s >>> 1, s)

/-- Source 20, `ZERO` (R106): `v <- 0x00000`. -/
def sourceZero (_a : Addr) (s : State) : Word × State := (0, s)

/-- Source 21, `HALF` (R107): `v <- zext_20(Half)`. -/
def sourceHalf (_a : Addr) (s : State) : Word × State := (s.half.setWidth 20, s)

/-- Source 22, `HALFU` (R108): `v <- Half << 10`. -/
def sourceHalfU (_a : Addr) (s : State) : Word × State := (s.half.setWidth 20 <<< 10, s)

/-- Source 23, `SEQ` (R109): `v <- S`, before the step's advance. -/
def sourceSeq (_a : Addr) (s : State) : Word × State := (s.seq, s)

/-- Source 24, `P11` (R110): `v <- 0x00400`. -/
def sourceP11 (_a : Addr) (s : State) : Word × State := (unit, s)

/-- Source 25, `ONE` (R111): `v <- 0x00001`. -/
def sourceOne (_a : Addr) (s : State) : Word × State := (wordOne, s)

/-- Source 26, `LIT` (R112): `v <- zext_20(Hi(inst))`. -/
def sourceLit (a : Addr) (s : State) : Word × State := (a.setWidth 20, s)

/-- Source 27, `X1` (R113): `v <- AuxRead(1, a)`. -/
def sourceX1 (a : Addr) (s : State) : Word × State := (memRead .x1 a s, s)

/-- Source 28, `X2` (R114): `v <- AuxRead(2, a)`. -/
def sourceX2 (a : Addr) (s : State) : Word × State := (memRead .x2 a s, s)

/-- Source 29, `X3` (R115): `v <- AuxRead(3, a)`. -/
def sourceX3 (a : Addr) (s : State) : Word × State := (memRead .x3 a s, s)

/-- Source 30, `X4` (R116): `v <- AuxRead(4, a)`. -/
def sourceX4 (a : Addr) (s : State) : Word × State := (memRead .x4 a s, s)

/-- Source 31, `P20` (R117): `v <- 0x80000`. -/
def sourceP20 (_a : Addr) (s : State) : Word × State := (signWord, s)

/-- `ReadSource(inst)` (R72, R181 action 2): the source operation `r` with the address field `a`. -/
def readSource (r : SrcOp) (a : Addr) (s : State) : Word × State :=
  match r with
  | .m => sourceM a s
  | .inp => sourceIn a s
  | .swa => sourceSwA a s
  | .swb => sourceSwB a s
  | .acc => sourceAcc a s
  | .accs => sourceAccS a s
  | .accr => sourceAccR a s
  | .accl => sourceAccL a s
  | .acc1 => sourceAcc1 a s
  | .accz => sourceAccZ a s
  | .accnz => sourceAccNZ a s
  | .mul => sourceMul a s
  | .muls => sourceMulS a s
  | .mulr => sourceMulR a s
  | .aux => sourceAux a s
  | .auxs => sourceAuxS a s
  | .auxr => sourceAuxR a s
  | .g => sourceG a s
  | .gs => sourceGS a s
  | .gr => sourceGR a s
  | .zero => sourceZero a s
  | .half => sourceHalf a s
  | .halfu => sourceHalfU a s
  | .seq => sourceSeq a s
  | .p11 => sourceP11 a s
  | .one => sourceOne a s
  | .lit => sourceLit a s
  | .x1 => sourceX1 a s
  | .x2 => sourceX2 a s
  | .x3 => sourceX3 a s
  | .x4 => sourceX4 a s
  | .p20 => sourceP20 a s

end Sys2Proof.Machine
end

