-- ==== Sys2Proof/Machine/Destinations.lean ====
section
/-! DEFINITION. Sys2Proof/Machine/Destinations.lean: the 32 destination operations (41_dest_moves.md,
42_dest_arith.md, 43_dest_control.md).  Each takes the address field `a = Hi(inst)`, the source value `v` and the
state left by the source operation, the advance of `S` and the default fetch (R142), and writes only what its
rule names. -/

namespace Sys2Proof.Machine

/-- Destination 0, `M` (R126): `MemWrite(a, 1, v)`, after this step's default fetch. -/
def destM (a : Addr) (v : Word) (s : State) : Result := .next (memWrite .main a v s)

/-- Destination 1, `NUL1` (R127): nothing; `v` is discarded. -/
def destNul1 (_a : Addr) (_v : Word) (s : State) : Result := .next s

/-- Destination 2, `PRINT` (R128): `Emit(console, v)` (the port: the spec's decision D14). -/
def destPrint (_a : Addr) (v : Word) (s : State) : Result := emit .console v s

/-- Destination 3, `PUNCH` (R129): `Emit(punch, v)` (the port: the spec's decision D14). -/
def destPunch (_a : Addr) (v : Word) (s : State) : Result := emit .punch v s

/-- Destination 4, `ACC` (R130): `Acc <- v`. -/
def destAcc (_a : Addr) (v : Word) (s : State) : Result := .next (s.setAcc v)

/-- Destination 5, `ADD` (R151): `Acc <- wrap20(Acc + v)`. -/
def destAdd (_a : Addr) (v : Word) (s : State) : Result := .next (s.setAcc (add20 s.acc v))

/-- Destination 6, `SUB` (R152): `Acc <- wrap20(Acc - v)`. -/
def destSub (_a : Addr) (v : Word) (s : State) : Result := .next (s.setAcc (sub20 s.acc v))

/-- Destination 7, `AND` (R153): `Acc <- Acc & v`. -/
def destAnd (_a : Addr) (v : Word) (s : State) : Result := .next (s.setAcc (s.acc &&& v))

/-- Destination 8, `OR` (R154): `Acc <- Acc | v`. -/
def destOr (_a : Addr) (v : Word) (s : State) : Result := .next (s.setAcc (s.acc ||| v))

/-- Destination 9, `XOR` (R155): `Acc <- Acc ^ v`. -/
def destXor (_a : Addr) (v : Word) (s : State) : Result := .next (s.setAcc (s.acc ^^^ v))

/-- Destination 10, `SPEAK` (R131): `Emit(speaker, v)` (the port: the spec's decision D14). -/
def destSpeak (_a : Addr) (v : Word) (s : State) : Result := emit .speaker v s

/-- Destination 11, `MUL` (R132): `Mul <- v`. -/
def destMul (_a : Addr) (v : Word) (s : State) : Result := .next (s.setMul v)

/-- Destination 12, `MPY` (R158): multiply `v` by `Aux`; the high word is added into `Acc`, the low word replaces `Mul` (the sign's place: the spec's decision D2). -/
def destMpy (_a : Addr) (v : Word) (s : State) : Result :=
  .next ((s.setAcc (add20 s.acc (productHigh v s.aux))).setMul (productLow v s.aux))

/-- Destination 13, `SHL` (R161): if `v[20:20] = 1`, rotate `Acc:Mul` left by `v[15:12] + 1`; both registers are read before either is written. -/
def destShl (_a : Addr) (v : Word) (s : State) : Result :=
  .next (if sign v then (s.setAcc (rotateFirst (shiftCount v) s.acc s.mul)).setMul (rotateFirst (shiftCount v) s.mul s.acc)
    else s)

/-- Destination 14, `AUX` (R133): `Aux <- v`. -/
def destAux (_a : Addr) (v : Word) (s : State) : Result := .next (s.setAux v)

/-- Destination 15, `AUXADD` (R156): `Aux <- wrap20(Aux + v)`. -/
def destAuxAdd (_a : Addr) (v : Word) (s : State) : Result := .next (s.setAux (add20 s.aux v))

/-- Destination 16, `AUXSUB` (R157): `Aux <- wrap20(Aux - v)`. -/
def destAuxSub (_a : Addr) (v : Word) (s : State) : Result := .next (s.setAux (sub20 s.aux v))

/-- Destination 17, `G` (R134): `G[g] <- v`. -/
def destG (a : Addr) (v : Word) (s : State) : Result := .next (writeG (gIndex a) v s)

/-- Destination 18, `GADD` (R164): `G[g] <- wrap20(G[g] + v)`. -/
def destGAdd (a : Addr) (v : Word) (s : State) : Result := .next (writeG (gIndex a) (add20 (readG (gIndex a) s) v) s)

/-- Destination 19, `GSUB` (R165): `G[g] <- wrap20(G[g] - v)`. -/
def destGSub (a : Addr) (v : Word) (s : State) : Result := .next (writeG (gIndex a) (sub20 (readG (gIndex a) s) v) s)

/-- Destination 20, `NUL2` (R135): nothing; `v` is discarded. -/
def destNul2 (_a : Addr) (_v : Word) (s : State) : Result := .next s

/-- Destination 21, `HALF` (R136): `Half <- Lo(v)`. -/
def destHalf (_a : Addr) (v : Word) (s : State) : Result := .next (s.setHalf (lo v))

/-- Destination 22, `HALFU` (R137): `Half <- Hi(v)`. -/
def destHalfU (_a : Addr) (v : Word) (s : State) : Result := .next (s.setHalf (hi v))

/-- Destination 23, `JMP` (R171): `S <- v; I <- MemRead(Hi(S), 1)`. -/
def destJmp (_a : Addr) (v : Word) (s : State) : Result := .next (fetch (s.setSeq v))

/-- Destination 24, `JREL` (R172): `S <- wrap20(S + v); I <- MemRead(Hi(S), 1)`, from the advanced `S`. -/
def destJRel (_a : Addr) (v : Word) (s : State) : Result := .next (fetch (s.setSeq (add20 s.seq v)))

/-- Destination 25, `SKIP` (R173): one more unit for each tested range of `v` that is not zero, then the fetch. -/
def destSkip (_a : Addr) (v : Word) (s : State) : Result :=
  .next (fetch (advanceIf (highRangeSet v) (advanceIf (lowRangeSet v) s)))

/-- Destination 26, `IMOD` (R174): `I <- wrap20(I + mask20(v << 10))`, no fetch (the shift: the spec's decision D15). -/
def destIMod (_a : Addr) (v : Word) (s : State) : Result := .next (s.setIr (add20 s.ir (v <<< 10)))

/-- Destination 27, `X1` (R138): `AuxWrite(1, a, v)`. -/
def destX1 (a : Addr) (v : Word) (s : State) : Result := .next (memWrite .x1 a v s)

/-- Destination 28, `X2` (R139): `AuxWrite(2, a, v)`. -/
def destX2 (a : Addr) (v : Word) (s : State) : Result := .next (memWrite .x2 a v s)

/-- Destination 29, `X3` (R140): `AuxWrite(3, a, v)`. -/
def destX3 (a : Addr) (v : Word) (s : State) : Result := .next (memWrite .x3 a v s)

/-- Destination 30, `X4` (R141): `AuxWrite(4, a, v)`. -/
def destX4 (a : Addr) (v : Word) (s : State) : Result := .next (memWrite .x4 a v s)

/-- Destination 31, `STOP` (R175): if `v != 0` then `signal Stop`. -/
def destStop (_a : Addr) (v : Word) (s : State) : Result := .next (if stopRequested v then signalStop s else s)

/-- `WriteDest(inst, v)` (R72, R181 action 5): the destination operation `d` with the address field `a`. -/
def writeDest (d : DstOp) (a : Addr) (v : Word) (s : State) : Result :=
  match d with
  | .m => destM a v s
  | .nul1 => destNul1 a v s
  | .print => destPrint a v s
  | .punch => destPunch a v s
  | .acc => destAcc a v s
  | .add => destAdd a v s
  | .sub => destSub a v s
  | .and => destAnd a v s
  | .or => destOr a v s
  | .xor => destXor a v s
  | .speak => destSpeak a v s
  | .mul => destMul a v s
  | .mpy => destMpy a v s
  | .shl => destShl a v s
  | .aux => destAux a v s
  | .auxadd => destAuxAdd a v s
  | .auxsub => destAuxSub a v s
  | .g => destG a v s
  | .gadd => destGAdd a v s
  | .gsub => destGSub a v s
  | .nul2 => destNul2 a v s
  | .half => destHalf a v s
  | .halfu => destHalfU a v s
  | .jmp => destJmp a v s
  | .jrel => destJRel a v s
  | .skip => destSkip a v s
  | .imod => destIMod a v s
  | .x1 => destX1 a v s
  | .x2 => destX2 a v s
  | .x3 => destX3 a v s
  | .x4 => destX4 a v s
  | .stop => destStop a v s

end Sys2Proof.Machine
end

