-- ==== Sys2Proof/Machine/ArithRows.lean ====
section
/-! DEFINITION. Sys2Proof/Machine/ArithRows.lean: the meanings of the destination rows that compute (42_dest_arith.md):
whichever source operation `r` the word's source field selects, then the named destination operation, in the
step's order (30_encoding.md R72, 44_cycle.md R181). -/

namespace Sys2Proof.Machine

/-- Row `dst.ADD` (R151). -/
def execDstAdd (a : Addr) (r : SrcOp) (s : State) : Result := runInstr (readSource r a) (destAdd a) s

/-- Row `dst.SUB` (R152). -/
def execDstSub (a : Addr) (r : SrcOp) (s : State) : Result := runInstr (readSource r a) (destSub a) s

/-- Row `dst.AND` (R153). -/
def execDstAnd (a : Addr) (r : SrcOp) (s : State) : Result := runInstr (readSource r a) (destAnd a) s

/-- Row `dst.OR` (R154). -/
def execDstOr (a : Addr) (r : SrcOp) (s : State) : Result := runInstr (readSource r a) (destOr a) s

/-- Row `dst.XOR` (R155). -/
def execDstXor (a : Addr) (r : SrcOp) (s : State) : Result := runInstr (readSource r a) (destXor a) s

/-- Row `dst.MPY` (R158). -/
def execDstMpy (a : Addr) (r : SrcOp) (s : State) : Result := runInstr (readSource r a) (destMpy a) s

/-- Row `dst.SHL` (R161). -/
def execDstShl (a : Addr) (r : SrcOp) (s : State) : Result := runInstr (readSource r a) (destShl a) s

/-- Row `dst.AUXADD` (R156). -/
def execDstAuxAdd (a : Addr) (r : SrcOp) (s : State) : Result := runInstr (readSource r a) (destAuxAdd a) s

/-- Row `dst.AUXSUB` (R157). -/
def execDstAuxSub (a : Addr) (r : SrcOp) (s : State) : Result := runInstr (readSource r a) (destAuxSub a) s

/-- Row `dst.GADD` (R164). -/
def execDstGAdd (a : Addr) (r : SrcOp) (s : State) : Result := runInstr (readSource r a) (destGAdd a) s

/-- Row `dst.GSUB` (R165). -/
def execDstGSub (a : Addr) (r : SrcOp) (s : State) : Result := runInstr (readSource r a) (destGSub a) s

end Sys2Proof.Machine
end

