-- ==== Sys2Proof/Machine/ControlRows.lean ====
section
/-! DEFINITION. Sys2Proof/Machine/ControlRows.lean: the meanings of the destination rows that change the flow of the program (43_dest_control.md):
whichever source operation `r` the word's source field selects, then the named destination operation, in the
step's order (30_encoding.md R72, 44_cycle.md R181). -/

namespace Sys2Proof.Machine

/-- Row `dst.JMP` (R171). -/
def execDstJmp (a : Addr) (r : SrcOp) (s : State) : Result := runInstr (readSource r a) (destJmp a) s

/-- Row `dst.JREL` (R172). -/
def execDstJRel (a : Addr) (r : SrcOp) (s : State) : Result := runInstr (readSource r a) (destJRel a) s

/-- Row `dst.SKIP` (R173). -/
def execDstSkip (a : Addr) (r : SrcOp) (s : State) : Result := runInstr (readSource r a) (destSkip a) s

/-- Row `dst.IMOD` (R174). -/
def execDstIMod (a : Addr) (r : SrcOp) (s : State) : Result := runInstr (readSource r a) (destIMod a) s

/-- Row `dst.STOP` (R175). -/
def execDstStop (a : Addr) (r : SrcOp) (s : State) : Result := runInstr (readSource r a) (destStop a) s

end Sys2Proof.Machine
end

