-- ==== Sys2Proof/Machine/MoveRows.lean ====
section
/-! DEFINITION. Sys2Proof/Machine/MoveRows.lean: the meanings of the destination rows that move a value (41_dest_moves.md):
whichever source operation `r` the word's source field selects, then the named destination operation, in the
step's order (30_encoding.md R72, 44_cycle.md R181). -/

namespace Sys2Proof.Machine

/-- Row `dst.M` (R126). -/
def execDstM (a : Addr) (r : SrcOp) (s : State) : Result := runInstr (readSource r a) (destM a) s

/-- Row `dst.NUL1` (R127). -/
def execDstNul1 (a : Addr) (r : SrcOp) (s : State) : Result := runInstr (readSource r a) (destNul1 a) s

/-- Row `dst.PRINT` (R128). -/
def execDstPrint (a : Addr) (r : SrcOp) (s : State) : Result := runInstr (readSource r a) (destPrint a) s

/-- Row `dst.PUNCH` (R129). -/
def execDstPunch (a : Addr) (r : SrcOp) (s : State) : Result := runInstr (readSource r a) (destPunch a) s

/-- Row `dst.ACC` (R130). -/
def execDstAcc (a : Addr) (r : SrcOp) (s : State) : Result := runInstr (readSource r a) (destAcc a) s

/-- Row `dst.SPEAK` (R131). -/
def execDstSpeak (a : Addr) (r : SrcOp) (s : State) : Result := runInstr (readSource r a) (destSpeak a) s

/-- Row `dst.MUL` (R132). -/
def execDstMul (a : Addr) (r : SrcOp) (s : State) : Result := runInstr (readSource r a) (destMul a) s

/-- Row `dst.AUX` (R133). -/
def execDstAux (a : Addr) (r : SrcOp) (s : State) : Result := runInstr (readSource r a) (destAux a) s

/-- Row `dst.G` (R134). -/
def execDstG (a : Addr) (r : SrcOp) (s : State) : Result := runInstr (readSource r a) (destG a) s

/-- Row `dst.NUL2` (R135). -/
def execDstNul2 (a : Addr) (r : SrcOp) (s : State) : Result := runInstr (readSource r a) (destNul2 a) s

/-- Row `dst.HALF` (R136). -/
def execDstHalf (a : Addr) (r : SrcOp) (s : State) : Result := runInstr (readSource r a) (destHalf a) s

/-- Row `dst.HALFU` (R137). -/
def execDstHalfU (a : Addr) (r : SrcOp) (s : State) : Result := runInstr (readSource r a) (destHalfU a) s

/-- Row `dst.X1` (R138). -/
def execDstX1 (a : Addr) (r : SrcOp) (s : State) : Result := runInstr (readSource r a) (destX1 a) s

/-- Row `dst.X2` (R139). -/
def execDstX2 (a : Addr) (r : SrcOp) (s : State) : Result := runInstr (readSource r a) (destX2 a) s

/-- Row `dst.X3` (R140). -/
def execDstX3 (a : Addr) (r : SrcOp) (s : State) : Result := runInstr (readSource r a) (destX3 a) s

/-- Row `dst.X4` (R141). -/
def execDstX4 (a : Addr) (r : SrcOp) (s : State) : Result := runInstr (readSource r a) (destX4 a) s

end Sys2Proof.Machine
end

