-- ==== Sys2Proof/Machine/SourceRows.lean ====
section
/-! DEFINITION. Sys2Proof/Machine/SourceRows.lean: the meanings of the 32 source rows of the opcode table: the named
source operation, then whichever destination operation `d` the word's destination field selects, in the step's
order (30_encoding.md R72, 44_cycle.md R181). -/

namespace Sys2Proof.Machine

/-- Row `src.M` (R86). -/
def execSrcM (a : Addr) (d : DstOp) (s : State) : Result := runInstr (sourceM a) (writeDest d a) s

/-- Row `src.IN` (R87). -/
def execSrcIn (a : Addr) (d : DstOp) (s : State) : Result := runInstr (sourceIn a) (writeDest d a) s

/-- Row `src.SWA` (R88). -/
def execSrcSwA (a : Addr) (d : DstOp) (s : State) : Result := runInstr (sourceSwA a) (writeDest d a) s

/-- Row `src.SWB` (R89). -/
def execSrcSwB (a : Addr) (d : DstOp) (s : State) : Result := runInstr (sourceSwB a) (writeDest d a) s

/-- Row `src.ACC` (R90). -/
def execSrcAcc (a : Addr) (d : DstOp) (s : State) : Result := runInstr (sourceAcc a) (writeDest d a) s

/-- Row `src.ACCS` (R91). -/
def execSrcAccS (a : Addr) (d : DstOp) (s : State) : Result := runInstr (sourceAccS a) (writeDest d a) s

/-- Row `src.ACCR` (R92). -/
def execSrcAccR (a : Addr) (d : DstOp) (s : State) : Result := runInstr (sourceAccR a) (writeDest d a) s

/-- Row `src.ACCL` (R93). -/
def execSrcAccL (a : Addr) (d : DstOp) (s : State) : Result := runInstr (sourceAccL a) (writeDest d a) s

/-- Row `src.ACC1` (R94). -/
def execSrcAcc1 (a : Addr) (d : DstOp) (s : State) : Result := runInstr (sourceAcc1 a) (writeDest d a) s

/-- Row `src.ACCZ` (R95). -/
def execSrcAccZ (a : Addr) (d : DstOp) (s : State) : Result := runInstr (sourceAccZ a) (writeDest d a) s

/-- Row `src.ACCNZ` (R96). -/
def execSrcAccNZ (a : Addr) (d : DstOp) (s : State) : Result := runInstr (sourceAccNZ a) (writeDest d a) s

/-- Row `src.MUL` (R97). -/
def execSrcMul (a : Addr) (d : DstOp) (s : State) : Result := runInstr (sourceMul a) (writeDest d a) s

/-- Row `src.MULS` (R98). -/
def execSrcMulS (a : Addr) (d : DstOp) (s : State) : Result := runInstr (sourceMulS a) (writeDest d a) s

/-- Row `src.MULR` (R99). -/
def execSrcMulR (a : Addr) (d : DstOp) (s : State) : Result := runInstr (sourceMulR a) (writeDest d a) s

/-- Row `src.AUX` (R100). -/
def execSrcAux (a : Addr) (d : DstOp) (s : State) : Result := runInstr (sourceAux a) (writeDest d a) s

/-- Row `src.AUXS` (R101). -/
def execSrcAuxS (a : Addr) (d : DstOp) (s : State) : Result := runInstr (sourceAuxS a) (writeDest d a) s

/-- Row `src.AUXR` (R102). -/
def execSrcAuxR (a : Addr) (d : DstOp) (s : State) : Result := runInstr (sourceAuxR a) (writeDest d a) s

/-- Row `src.G` (R103). -/
def execSrcG (a : Addr) (d : DstOp) (s : State) : Result := runInstr (sourceG a) (writeDest d a) s

/-- Row `src.GS` (R104). -/
def execSrcGS (a : Addr) (d : DstOp) (s : State) : Result := runInstr (sourceGS a) (writeDest d a) s

/-- Row `src.GR` (R105). -/
def execSrcGR (a : Addr) (d : DstOp) (s : State) : Result := runInstr (sourceGR a) (writeDest d a) s

/-- Row `src.ZERO` (R106). -/
def execSrcZero (a : Addr) (d : DstOp) (s : State) : Result := runInstr (sourceZero a) (writeDest d a) s

/-- Row `src.HALF` (R107). -/
def execSrcHalf (a : Addr) (d : DstOp) (s : State) : Result := runInstr (sourceHalf a) (writeDest d a) s

/-- Row `src.HALFU` (R108). -/
def execSrcHalfU (a : Addr) (d : DstOp) (s : State) : Result := runInstr (sourceHalfU a) (writeDest d a) s

/-- Row `src.SEQ` (R109). -/
def execSrcSeq (a : Addr) (d : DstOp) (s : State) : Result := runInstr (sourceSeq a) (writeDest d a) s

/-- Row `src.P11` (R110). -/
def execSrcP11 (a : Addr) (d : DstOp) (s : State) : Result := runInstr (sourceP11 a) (writeDest d a) s

/-- Row `src.ONE` (R111). -/
def execSrcOne (a : Addr) (d : DstOp) (s : State) : Result := runInstr (sourceOne a) (writeDest d a) s

/-- Row `src.LIT` (R112). -/
def execSrcLit (a : Addr) (d : DstOp) (s : State) : Result := runInstr (sourceLit a) (writeDest d a) s

/-- Row `src.X1` (R113). -/
def execSrcX1 (a : Addr) (d : DstOp) (s : State) : Result := runInstr (sourceX1 a) (writeDest d a) s

/-- Row `src.X2` (R114). -/
def execSrcX2 (a : Addr) (d : DstOp) (s : State) : Result := runInstr (sourceX2 a) (writeDest d a) s

/-- Row `src.X3` (R115). -/
def execSrcX3 (a : Addr) (d : DstOp) (s : State) : Result := runInstr (sourceX3 a) (writeDest d a) s

/-- Row `src.X4` (R116). -/
def execSrcX4 (a : Addr) (d : DstOp) (s : State) : Result := runInstr (sourceX4 a) (writeDest d a) s

/-- Row `src.P20` (R117). -/
def execSrcP20 (a : Addr) (d : DstOp) (s : State) : Result := runInstr (sourceP20 a) (writeDest d a) s

end Sys2Proof.Machine
end

