-- ==== Sys2Proof/Machine/Dispatch.lean ====
section
/-! DEFINITION. Sys2Proof/Machine/Dispatch.lean: one arm per row of the opcode table. -/

namespace Sys2Proof.Machine

def exec (i : Instr) (s : State) : Host.Outcome State Fault Refusal :=
  match i with
  | .srcM a d => Sys2Proof.Machine.execSrcM a d s
  | .srcIn a d => Sys2Proof.Machine.execSrcIn a d s
  | .srcSwA a d => Sys2Proof.Machine.execSrcSwA a d s
  | .srcSwB a d => Sys2Proof.Machine.execSrcSwB a d s
  | .srcAcc a d => Sys2Proof.Machine.execSrcAcc a d s
  | .srcAccS a d => Sys2Proof.Machine.execSrcAccS a d s
  | .srcAccR a d => Sys2Proof.Machine.execSrcAccR a d s
  | .srcAccL a d => Sys2Proof.Machine.execSrcAccL a d s
  | .srcAcc1 a d => Sys2Proof.Machine.execSrcAcc1 a d s
  | .srcAccZ a d => Sys2Proof.Machine.execSrcAccZ a d s
  | .srcAccNZ a d => Sys2Proof.Machine.execSrcAccNZ a d s
  | .srcMul a d => Sys2Proof.Machine.execSrcMul a d s
  | .srcMulS a d => Sys2Proof.Machine.execSrcMulS a d s
  | .srcMulR a d => Sys2Proof.Machine.execSrcMulR a d s
  | .srcAux a d => Sys2Proof.Machine.execSrcAux a d s
  | .srcAuxS a d => Sys2Proof.Machine.execSrcAuxS a d s
  | .srcAuxR a d => Sys2Proof.Machine.execSrcAuxR a d s
  | .srcG a d => Sys2Proof.Machine.execSrcG a d s
  | .srcGS a d => Sys2Proof.Machine.execSrcGS a d s
  | .srcGR a d => Sys2Proof.Machine.execSrcGR a d s
  | .srcZero a d => Sys2Proof.Machine.execSrcZero a d s
  | .srcHalf a d => Sys2Proof.Machine.execSrcHalf a d s
  | .srcHalfU a d => Sys2Proof.Machine.execSrcHalfU a d s
  | .srcSeq a d => Sys2Proof.Machine.execSrcSeq a d s
  | .srcP11 a d => Sys2Proof.Machine.execSrcP11 a d s
  | .srcOne a d => Sys2Proof.Machine.execSrcOne a d s
  | .srcLit a d => Sys2Proof.Machine.execSrcLit a d s
  | .srcX1 a d => Sys2Proof.Machine.execSrcX1 a d s
  | .srcX2 a d => Sys2Proof.Machine.execSrcX2 a d s
  | .srcX3 a d => Sys2Proof.Machine.execSrcX3 a d s
  | .srcX4 a d => Sys2Proof.Machine.execSrcX4 a d s
  | .srcP20 a d => Sys2Proof.Machine.execSrcP20 a d s
  | .dstM a r => Sys2Proof.Machine.execDstM a r s
  | .dstNul1 a r => Sys2Proof.Machine.execDstNul1 a r s
  | .dstPrint a r => Sys2Proof.Machine.execDstPrint a r s
  | .dstPunch a r => Sys2Proof.Machine.execDstPunch a r s
  | .dstAcc a r => Sys2Proof.Machine.execDstAcc a r s
  | .dstAdd a r => Sys2Proof.Machine.execDstAdd a r s
  | .dstSub a r => Sys2Proof.Machine.execDstSub a r s
  | .dstAnd a r => Sys2Proof.Machine.execDstAnd a r s
  | .dstOr a r => Sys2Proof.Machine.execDstOr a r s
  | .dstXor a r => Sys2Proof.Machine.execDstXor a r s
  | .dstSpeak a r => Sys2Proof.Machine.execDstSpeak a r s
  | .dstMul a r => Sys2Proof.Machine.execDstMul a r s
  | .dstMpy a r => Sys2Proof.Machine.execDstMpy a r s
  | .dstShl a r => Sys2Proof.Machine.execDstShl a r s
  | .dstAux a r => Sys2Proof.Machine.execDstAux a r s
  | .dstAuxAdd a r => Sys2Proof.Machine.execDstAuxAdd a r s
  | .dstAuxSub a r => Sys2Proof.Machine.execDstAuxSub a r s
  | .dstG a r => Sys2Proof.Machine.execDstG a r s
  | .dstGAdd a r => Sys2Proof.Machine.execDstGAdd a r s
  | .dstGSub a r => Sys2Proof.Machine.execDstGSub a r s
  | .dstNul2 a r => Sys2Proof.Machine.execDstNul2 a r s
  | .dstHalf a r => Sys2Proof.Machine.execDstHalf a r s
  | .dstHalfU a r => Sys2Proof.Machine.execDstHalfU a r s
  | .dstJmp a r => Sys2Proof.Machine.execDstJmp a r s
  | .dstJRel a r => Sys2Proof.Machine.execDstJRel a r s
  | .dstSkip a r => Sys2Proof.Machine.execDstSkip a r s
  | .dstIMod a r => Sys2Proof.Machine.execDstIMod a r s
  | .dstX1 a r => Sys2Proof.Machine.execDstX1 a r s
  | .dstX2 a r => Sys2Proof.Machine.execDstX2 a r s
  | .dstX3 a r => Sys2Proof.Machine.execDstX3 a r s
  | .dstX4 a r => Sys2Proof.Machine.execDstX4 a r s
  | .dstStop a r => Sys2Proof.Machine.execDstStop a r s

end Sys2Proof.Machine
end

