-- ==== Sys2Proof/Machine/Step.lean ====
section
/-! DEFINITION. Sys2Proof/Machine/Step.lean: one step (44_cycle.md R181 to R186). -/

namespace Sys2Proof.Machine

/-- One step, when the launch parameter `host_input_schedule` is `f` (R7, D6).  A `Running` machine executes the
staged instruction, the snapshot of `I` (R181, R182), and then the host may set the input registers for the next
step (R42).  In `Stopped` no step is possible (R185). -/
def stepWith (f : Nat → HostInputs) (s : State) : Result :=
  match s.run with
  | .stopped => .fault .stopped
  | .running =>
    match exec (decode s.ir) s with
    | .next t => .next (hostBetweenSteps f t)
    | .fault e => .fault e
    | .refused r => .refused r

/-- One step, under the open launch parameter itself: nothing is known of it, so what holds of `step` holds for
every schedule (log entry 6). -/
def step (s : State) : Host.Outcome State Fault Refusal := stepWith Config.hostInputSchedule s

/-- `s` with an instruction word staged in `I`, which is where `step` takes its next instruction from (R33, R181);
the stores are left alone (log entry 25). -/
def State.withFetchWord (s : State) (nbits w : Nat) : State := s.setIr (BitVec.ofNat 20 (w % 2 ^ nbits))

end Sys2Proof.Machine
end

