-- ==== Sys2Proof/Machine/Launch.lean ====
section
/-! DEFINITION. Sys2Proof/Machine/Launch.lean: what the host may do before the first step (60_exceptions.md R211,
R212; 70_reset_and_hazards.md R216, R218, R220). -/

namespace Sys2Proof.Machine

/-- One action of the host before the first step: program load of one word, direct initialisation of one
register, or the choice of a launch parameter (R7, R211, R218). -/
inductive LaunchAction where
  | load (k : StoreId) (a : Addr) (v : Word)
  | setAcc (v : Word)
  | setMul (v : Word)
  | setAux (v : Word)
  | setHalf (v : HalfWord)
  | setG (g : GIndex) (v : Word)
  | setSeq (v : Word)
  | setIr (v : Word)
  | setInputs (i : HostInputs)
  | connect (p : Port) (k : Sink)
  | setSchedule (l : InputSchedule)
  | setRunMode (m : RunMode)
  deriving DecidableEq, Repr

/-- The effect of one launch action. -/
def LaunchAction.apply (s : State) : LaunchAction → State
  | .load k a v => memWrite k a v s
  | .setAcc v => s.setAcc v
  | .setMul v => s.setMul v
  | .setAux v => s.setAux v
  | .setHalf v => s.setHalf v
  | .setG g v => writeG g v s
  | .setSeq v => s.setSeq v
  | .setIr v => s.setIr v
  | .setInputs i => s.setInputs i
  | .connect p k => s.setPorts (s.ports.set p k)
  | .setSchedule l => s.setSchedule l
  | .setRunMode m => s.setRunMode m

/-- Launch: reset, then the host's actions in order (R216, R218). -/
def launch (actions : List LaunchAction) : State := actions.foldl LaunchAction.apply State.reset

/-- Enter at address `e`, first way of R220: `S` one unit before it and `I = 0`. -/
def enterBefore (e : Addr) : List LaunchAction := [.setSeq ((e - 1).setWidth 20 <<< 10), .setIr 0]

/-- Enter at address `e`, second way of R220: `S` at it and `I` the word there. -/
def enterAt (e : Addr) (s : State) : State := (s.setSeq (e.setWidth 20 <<< 10)).setIr (memRead .main e s)

/-- Put the inputs under the launch parameter `host_input_schedule` `f` from step 0 on (R7, D6): the values of step 0
now, those of step 1 and all later ones as the steps come. -/
def startSchedule (f : Nat → HostInputs) (s : State) : State := (s.setInputs (f 0)).setSchedule (.parameter 1)

end Sys2Proof.Machine
end

