-- ==== Sys2Proof/Machine/Run.lean ====
section
/-! DEFINITION. Sys2Proof/Machine/Run.lean: the two run modes, the end of a run and the trace port (44_cycle.md R187
to R192), each under any launch parameter `host_input_schedule` `f` (R7, D6). -/

namespace Sys2Proof.Machine

/-- One moment of the run: a free-running machine takes its next step; a paced one takes it when there is a tick
and otherwise waits unchanged (R187, R210). -/
def clock (f : Nat → HostInputs) (tick : Bool) (s : State) : Result :=
  match s.runMode, tick with
  | .free, _ => stepWith f s
  | .paced, true => stepWith f s
  | .paced, false => .next s

/-- How a run ended (R188, R190, R205, I12). -/
inductive RunEnd where
  /-- A step set the run state to `Stopped`: the normal end (R190). -/
  | stoppedNormally
  /-- The host gave a paced machine no more ticks; it is still `Running` (R188). -/
  | abandoned
  /-- A free-running machine had not stopped within the moments looked at: no result, no state of the machine (I12). -/
  | notWithinBound
  /-- A port never takes its word: the core is stuck in that step (R205). -/
  | stuck (port : Port)
  /-- The step refused an instruction; no instruction of this machine is refused. -/
  | refused
  deriving DecidableEq, Repr

/-- The result of a run: how it ended and the state after the last completed step, which holds the ordered list of
port events (R190). -/
structure RunResult where
  ending : RunEnd
  final : State
  deriving DecidableEq, Repr

/-- Run over the given moments, each with or without a tick. -/
def runOver (f : Nat → HostInputs) : List Bool → State → RunResult
  | [], s =>
    match s.run, s.runMode with
    | .stopped, _ => ⟨.stoppedNormally, s⟩
    | .running, .paced => ⟨.abandoned, s⟩
    | .running, .free => ⟨.notWithinBound, s⟩
  | tick :: rest, s =>
    match clock f tick s with
    | .next t => runOver f rest t
    | .fault .stopped => ⟨.stoppedNormally, s⟩
    | .fault (.portBlocked p) => ⟨.stuck p, s⟩
    | .refused _ => ⟨.refused, s⟩

/-- How many steps a machine of this mode takes over the given moments, each of which completes (R187). -/
def stepsOver (m : RunMode) (ts : List Bool) : Nat :=
  match m with
  | .free => ts.length
  | .paced => ts.count true

/-- What the trace port shows over the same moments: the whole state at each step boundary, before the step
(R40, R192; in paced mode too, the spec's decision D18, log entry 19).  DESIGN CHOICE (log entry 26): the spec does
not say how often one boundary is sampled.  Here the port is sampled at every moment, so the boundary at which a
paced machine waits gives one equal sample for each moment without a tick, and once more at the end of the run. -/
def trace (f : Nat → HostInputs) : List Bool → State → List State
  | [], s => [s]
  | tick :: rest, s =>
    match clock f tick s with
    | .next t => s :: trace f rest t
    | .fault _ => [s]
    | .refused _ => [s]

end Sys2Proof.Machine
end

