-- ==== Sys2Proof/Safety.lean ====
section
/-! DEFINITION. Sys2Proof/Safety.lean: what counts as a safe step, in the terms the statements use.
The core itself never fails (60_exceptions.md R196, R201); the one thing that can keep a step from completing is a
connected port that does not take its word (R186, R205). -/

namespace Sys2Proof.Machine

/-- The port a destination emits on, if it is one of destinations 2, 3 and 10 (R128, R129, R131). -/
def portOf : DstOp → Option Port
  | .print => some .console
  | .punch => some .punch
  | .speak => some .speaker
  | _ => none

/-- The port takes the next word or is not connected. -/
def Sink.ready : Sink → Bool
  | .takes 0 => false
  | _ => true

/-- The destination's port, if it has one, does not block (R205, R212: "The host must take every word"). -/
def portReady (d : DstOp) (s : State) : Bool :=
  match portOf d with
  | some p => Sink.ready (s.ports.get p)
  | none => true

/-- A step completes. -/
def Completes (s : State) : Prop := ∃ t, step s = .next t

/-- No port of the machine can block. -/
def neverBlocks (s : State) : Bool :=
  [s.ports.console, s.ports.punch, s.ports.speaker].all fun k => decide (k = .unconnected) || decide (k = .takesAll)

end Sys2Proof.Machine
end

