-- ==== Sys2Proof/Certificates/Slice0/Obligations.lean ====
section
/-! DEFINITION. Sys2Proof/Certificates/Slice0/Obligations.lean: the statements for the provers.

The rules a statement formalises are named in its docstring.  Where the spec marks a point as its own decision
(D<n>), the docstring says so and the statement is `derived` in OBLIGATIONS.json. -/

set_option autoImplicit false

open Sys2Proof Sys2Proof.Machine

namespace Sys2Proof.Spec

/-! ## Words used by the statements -/

/-- `Acc` after the source operation: cleared by source 9, unchanged by every other (R95, R118). -/
def accAfter (r : SrcOp) (s : State) : Word := if r = .accz then 0 else s.acc

/-- The state a destination operation sees (R142, R181, R183): `Acc` as the source operation left it, `S` one unit
on, `I` the word of the main store at the new `Hi(S)`; nothing else has changed. -/
def fetched (s : State) (acc : Word) : State :=
  { s with acc := acc, seq := s.seq + 0x00400, ir := s.main.read ((s.seq + 0x00400).toNat / 1024) }

/-- The state the destination operation of a word with source `r` sees. -/
def seenBy (r : SrcOp) (s : State) : State := fetched s (accAfter r s)

/-- The value `v` the destination operation receives (R71). -/
def operand (r : SrcOp) (a : Addr) (s : State) : Word := (readSource r a s).1

/-- The instruction completes, and it does so as its destination operation does on the value `v`, from the state
with `Acc = acc`, `S` advanced and `I` fetched. -/
def HandsOver (i : Instr) (s : State) (v acc : Word) : Prop :=
  ∃ t, writeDest i.dstOp i.addr v (fetched s acc) = .next t ∧ exec i s = .next t

/-- The port is connected and takes the word, and this is the port afterwards (R204, R205). -/
def Takes (k k' : Sink) : Prop := (k = .takesAll ∧ k' = .takesAll) ∨ ∃ n, k = .takes (n + 1) ∧ k' = .takes n

/-- The instruction completes; every cell of store `k` reads as before but `a`, which reads `v`; nothing else
changes from the state the destination sees. -/
def WritesCell (i : Instr) (r : SrcOp) (k : StoreId) (a : Addr) (s : State) : Prop :=
  ∃ m, exec i s = .next ((seenBy r s).setStore k m) ∧
    ∀ b : Nat, m.read b = if b = a.toNat then operand r a s else (s.storeOf k).read b

/-- The same instruction emits `v` on port `p` (R204, R205, R143). -/
def Emits (i : Instr) (r : SrcOp) (p : Port) (a : Addr) (s : State) : Prop :=
  (s.ports.get p = .unconnected → exec i s = .next (seenBy r s)) ∧
  (∀ k', Takes (s.ports.get p) k' →
    exec i s = .next { seenBy r s with
      ports := s.ports.set p k', output := s.output ++ [{ port := p, word := operand r a s }] }) ∧
  (s.ports.get p = .takes 0 → exec i s = .fault (.portBlocked p))

/-- The three input registers hold these values, and the schedule goes on so. -/
def withInputs (s : State) (x : HostInputs) (l : InputSchedule) : State :=
  { s with inp := x.inp, swA := x.swA, swB := x.swB, schedule := l }

/-- `stp` runs the instruction staged in `I` (R181, R182) and then, when the machine is still running, lets the host,
whose `host_input_schedule` is `f`, set the inputs of the next step (R42, D6). -/
def StepsAs (f : Nat → HostInputs) (stp : State → Result) : Prop :=
  ∀ (s : State) (i : Instr), s.run = .running → decode s.ir = i →
    (∀ t, exec i s = .next t →
      (t.run = .stopped ∨ t.schedule = .keep → stp s = .next t) ∧
      (∀ x l, t.run = .running → t.schedule = .given x l → stp s = .next (withInputs t x l)) ∧
      (∀ k, t.run = .running → t.schedule = .parameter k →
        stp s = .next (withInputs t (f k) (.parameter (k + 1))))) ∧
    (∀ e, exec i s = .fault e → stp s = .fault e)

/-- The general registers with one replaced (R27). -/
def withG (s : State) (g : Nat) (v : Word) : State :=
  { s with g := Vector.ofFn fun j : Fin 16 => if j.val = g then v else s.g[j] }

/-- The sign bit in place, as a number (R121). -/
def signPart (w : Word) : Nat := if w.toNat < 2 ^ 19 then 0 else 2 ^ 19

/-- The 19-bit magnitude (R158, R159). -/
def mag (w : Word) : Nat := w.toNat % 2 ^ 19

/-- The sign bit (R158, R159). -/
def neg (w : Word) : Bool := decide (2 ^ 19 ≤ w.toNat)

end Sys2Proof.Spec

open Sys2Proof.Spec

/-! ## Encoding -/

/-- R66, R74, R75, on words written out from the patterns of spec/opcode_table.json: the decoder gives the
instruction each stands for. -/
def Obligations.WordsWrittenOutDecode : Prop :=
  decode 0b0000010101_00001_00000 = .srcIn 21 .m ∧
  decode 0b0000010101_00100_00101 = .dstAdd 21 .acc ∧
  decode 0b0000010101_00000_00001 = .dstNul1 21 .m ∧
  decode 0b1111111111_11010_10101 = .dstHalf 1023 .lit ∧
  decode 0b0000000000_11001_11111 = .dstStop 0 .one ∧
  decode 0b0000000110_00000_10111 = .dstJmp 6 .m ∧
  decodeAs .source 0b0000010101_01001_00001 = .srcAccZ 21 .nul1

/-- R66: every word's address field is bits 20..11, its source field bits 10..6, its destination field bits 5..1,
by either half of the table, and `inst = (Hi << 10) | (Src << 5) | Dst` gives the word back. -/
def Obligations.FieldsOfEveryWordStandWhereSpecSays : Prop :=
  ∀ (f : Format) (w : Word),
    (decodeAs f w).addr.toNat = w.toNat / 2 ^ 10 ∧
    (decodeAs f w).srcOp.code.toNat = w.toNat / 2 ^ 5 % 2 ^ 5 ∧
    (decodeAs f w).dstOp.code.toNat = w.toNat % 2 ^ 5 ∧
    encode (decodeAs f w) = w

/-- Every instruction, by the half of the table its row stands in, decodes from its own word with every operand;
one in the decoder's own reading decodes by the decoder; and the decoder answers only such instructions, each
encoding back to its word (R66, R68, R72, R73). -/
def Obligations.DecodeAndEncodeAgree : Prop :=
  (∀ i : Instr, decodeAs i.format (encode i) = i) ∧
  (∀ i : Instr, i.wellFormed = true → decode (encode i) = i) ∧
  (∀ w : Word, (decode w).wellFormed = true ∧ encode (decode w) = w)

/-- The two rows a word matches mean the same: what a word does depends only on the word, not on the half of the
opcode table it is read by (R72; log entry 1). -/
def Obligations.BothReadingsOfAWordMeanTheSame : Prop :=
  ∀ (i j : Instr) (s : State), encode i = encode j → exec i s = exec j s

/-! ## The step -/

/-- R181, R182: a running machine's step is exec of the instruction decoded from `I`; around it, when the machine
is still running, the host gives `In`, `SwA`, `SwB` the values its schedule has for the next step (R42, D6).  So does
`step`, under the open parameter `host_input_schedule`, and `stepWith f`, under any function `f` in its place; how the
schedule stands in the state is the model's choice (log entry 6). -/
def Obligations.StepRunsTheDecodedInstruction : Prop :=
  StepsAs Config.hostInputSchedule step ∧ ∀ f, StepsAs f (stepWith f)

/-- R181, R183: an instruction is its source operation, the advance of `S` by one unit, the default fetch from the
new `Hi(S)`, and its destination operation, in this order; the source operation changes nothing but that source 9
clears `Acc` (R118). -/
def Obligations.InstructionRunsInTheOrderOfTheSpec : Prop :=
  ∀ (i : Instr) (s : State),
    exec i s = writeDest i.dstOp i.addr (operand i.srcOp i.addr s) (seenBy i.srcOp s)

/-- R186, R205: every instruction of every row completes, unless its destination is 2, 3 or 10 and the connected
port does not take the word; then there is no next state. -/
def Obligations.EveryInstructionCompletesUnlessItsPortBlocks : Prop :=
  ∀ (i : Instr) (s : State),
    (portReady i.dstOp s = true →
      ∃ t, writeDest i.dstOp i.addr (operand i.srcOp i.addr s) (seenBy i.srcOp s) = .next t ∧ exec i s = .next t) ∧
    (∀ p, portOf i.dstOp = some p → s.ports.get p = .takes 0 → exec i s = .fault (.portBlocked p))

/-- R185 (final: D16): in `Stopped` no step is possible, whatever `I` holds.  The name of the outcome is the
model's choice (log entry 2). -/
def Obligations.StoppedMachineTakesNoStep : Prop :=
  ∀ s : State, s.run = .stopped → (∀ t, step s ≠ .next t) ∧ step s = .fault .stopped

/-- R186, R205: no instruction is refused, and the only thing that keeps one from completing is a port that does not
take the word its own destination emits.  The core itself never faults (R196): that a port which never takes its word
is said as the fault `portBlocked` is the model's (log entry 3), and so is its data form `takes 0` (log entry 4). -/
def Obligations.OnlyABlockedPortStopsAnInstruction : Prop :=
  ∀ (i : Instr) (s : State),
    (∀ r, exec i s ≠ .refused r) ∧
    (∀ f, exec i s = .fault f → ∃ p, f = .portBlocked p ∧ portOf i.dstOp = some p ∧ s.ports.get p = .takes 0)

/-- R186, R212: a running machine none of whose ports can block completes its step, and none of its ports can
block afterwards. -/
def Obligations.RunningMachineWithWillingPortsAlwaysSteps : Prop :=
  ∀ s : State, s.run = .running → neverBlocks s = true → ∃ t, step s = .next t ∧ neverBlocks t = true

/-! ## Source rows: the value each hands over, for every destination -/

/-- R86, R113 to R116: sources 0 and 27..30 hand over the whole word of the main store or of the auxiliary store,
at the address field, as it was before the step. -/
def Obligations.StoreSourcesHandOverTheCell : Prop :=
  ∀ (a : Addr) (d : DstOp) (s : State), portReady d s = true →
    HandsOver (.srcM a d) s (s.main.read a.toNat) s.acc ∧
    HandsOver (.srcX1 a d) s (s.x1.read a.toNat) s.acc ∧
    HandsOver (.srcX2 a d) s (s.x2.read a.toNat) s.acc ∧
    HandsOver (.srcX3 a d) s (s.x3.read a.toNat) s.acc ∧
    HandsOver (.srcX4 a d) s (s.x4.read a.toNat) s.acc

/-- R87 to R89, R34: sources 1, 2, 3 hand over the input and switch registers and do not change them (D6). -/
def Obligations.InputSourcesHandOverTheirRegister : Prop :=
  ∀ (a : Addr) (d : DstOp) (s : State), portReady d s = true →
    HandsOver (.srcIn a d) s s.inp s.acc ∧
    HandsOver (.srcSwA a d) s s.swA s.acc ∧
    HandsOver (.srcSwB a d) s s.swB s.acc

/-- R90 to R94: sources 4 to 8 hand over `Acc`, its sign bit in place, `Acc` halved with the sign kept, `Acc`
doubled modulo `2^20`, and its bit 1; `Acc` keeps its value. -/
def Obligations.AccumulatorSourcesHandOver : Prop :=
  ∀ (a : Addr) (d : DstOp) (s : State), portReady d s = true →
    HandsOver (.srcAcc a d) s s.acc s.acc ∧
    HandsOver (.srcAccS a d) s (BitVec.ofNat 20 (signPart s.acc)) s.acc ∧
    HandsOver (.srcAccR a d) s (BitVec.ofNat 20 (s.acc.toNat / 2 + signPart s.acc)) s.acc ∧
    HandsOver (.srcAccL a d) s (BitVec.ofNat 20 (2 * s.acc.toNat)) s.acc ∧
    HandsOver (.srcAcc1 a d) s (BitVec.ofNat 20 (s.acc.toNat % 2)) s.acc

/-- R95 (its corner cases are the spec's derivation from R181): source 9 hands over `Acc` and clears it before the
destination runs. -/
def Obligations.SourceNineHandsOverAndClearsAcc : Prop :=
  ∀ (a : Addr) (d : DstOp) (s : State), portReady d s = true → HandsOver (.srcAccZ a d) s s.acc 0

/-- R96: source 10 hands over 1 when `Acc` is not zero and 0 when it is.  The polarity is the spec's decision D11
(log entry 13). -/
def Obligations.SourceTenTestsAccForZero : Prop :=
  ∀ (a : Addr) (d : DstOp) (s : State), portReady d s = true →
    HandsOver (.srcAccNZ a d) s (if s.acc = 0x00000 then 0x00000 else 0x00001) s.acc

/-- R97 to R102: sources 11 to 16 hand over `Mul`, its sign bit as 0 or 1, `Mul` halved; `Aux`, its sign bit in
place, `Aux` halved. -/
def Obligations.MulAndAuxSourcesHandOver : Prop :=
  ∀ (a : Addr) (d : DstOp) (s : State), portReady d s = true →
    HandsOver (.srcMul a d) s s.mul s.acc ∧
    HandsOver (.srcMulS a d) s (BitVec.ofNat 20 (s.mul.toNat / 2 ^ 19)) s.acc ∧
    HandsOver (.srcMulR a d) s (BitVec.ofNat 20 (s.mul.toNat / 2)) s.acc ∧
    HandsOver (.srcAux a d) s s.aux s.acc ∧
    HandsOver (.srcAuxS a d) s (BitVec.ofNat 20 (signPart s.aux)) s.acc ∧
    HandsOver (.srcAuxR a d) s (BitVec.ofNat 20 (s.aux.toNat / 2)) s.acc

/-- R103 to R105: sources 17 to 19 hand over the general register that the low four bits of the address field
name, its sign bit in place, and it halved.  The index of sources 18 and 19, the place of the sign and the kind of
shift are the spec's decisions D7, D12, D13 (log entries 11, 14, 15). -/
def Obligations.GeneralRegisterSourcesHandOver : Prop :=
  ∀ (a : Addr) (d : DstOp) (s : State) (j : Fin 16), portReady d s = true → a.toNat % 16 = j.val →
    HandsOver (.srcG a d) s s.g[j] s.acc ∧
    HandsOver (.srcGS a d) s (BitVec.ofNat 20 (signPart s.g[j])) s.acc ∧
    HandsOver (.srcGR a d) s (BitVec.ofNat 20 (s.g[j].toNat / 2)) s.acc

/-- R106, R107, R108, R110, R111, R112, R117: the constants 0, `P(11)`, 1, `P(20)`, the half-register as a low and as
an upper half, and the address field itself, zero-extended. -/
def Obligations.ConstantHalfAndLiteralSourcesHandOver : Prop :=
  ∀ (a : Addr) (d : DstOp) (s : State), portReady d s = true →
    HandsOver (.srcZero a d) s 0x00000 s.acc ∧
    HandsOver (.srcHalf a d) s (BitVec.ofNat 20 s.half.toNat) s.acc ∧
    HandsOver (.srcHalfU a d) s (BitVec.ofNat 20 (s.half.toNat * 2 ^ 10)) s.acc ∧
    HandsOver (.srcP11 a d) s 0x00400 s.acc ∧
    HandsOver (.srcOne a d) s 0x00001 s.acc ∧
    HandsOver (.srcLit a d) s (BitVec.ofNat 20 a.toNat) s.acc ∧
    HandsOver (.srcP20 a d) s 0x80000 s.acc

/-- R109: source 23 hands over all of `S` as it is before the step's advance. -/
def Obligations.SourceTwentyThreeHandsOverSBeforeTheAdvance : Prop :=
  ∀ (a : Addr) (d : DstOp) (s : State), portReady d s = true → HandsOver (.srcSeq a d) s s.seq s.acc

/-! ## Destination rows that move a value, for every source -/

/-- R126, R138 to R141: destinations 0 and 27..30 replace the whole word at the address field of their store; every
other cell reads as before, and nothing else changes. -/
def Obligations.StoreDestinationsReplaceOneCell : Prop :=
  ∀ (a : Addr) (r : SrcOp) (s : State),
    WritesCell (.dstM a r) r .main a s ∧
    WritesCell (.dstX1 a r) r .x1 a s ∧
    WritesCell (.dstX2 a r) r .x2 a s ∧
    WritesCell (.dstX3 a r) r .x3 a s ∧
    WritesCell (.dstX4 a r) r .x4 a s

/-- R130, R132, R133, R136, R137: destinations 4, 11, 14 replace `Acc`, `Mul`, `Aux`; 21 and 22 load `Half` with the
low and the high half of the value; nothing else changes. -/
def Obligations.RegisterDestinationsReplaceOneRegister : Prop :=
  ∀ (a : Addr) (r : SrcOp) (s : State),
    exec (.dstAcc a r) s = .next { seenBy r s with acc := operand r a s } ∧
    exec (.dstMul a r) s = .next { seenBy r s with mul := operand r a s } ∧
    exec (.dstAux a r) s = .next { seenBy r s with aux := operand r a s } ∧
    exec (.dstHalf a r) s = .next { seenBy r s with half := BitVec.ofNat 10 ((operand r a s).toNat % 2 ^ 10) } ∧
    exec (.dstHalfU a r) s = .next { seenBy r s with half := BitVec.ofNat 10 ((operand r a s).toNat / 2 ^ 10) }

/-- R134: destination 17 replaces the general register that the low four bits of the address field name (the index
is the spec's decision D7, log entry 11); nothing else changes. -/
def Obligations.DestinationSeventeenReplacesOneGeneralRegister : Prop :=
  ∀ (a : Addr) (r : SrcOp) (s : State),
    exec (.dstG a r) s = .next (withG (seenBy r s) (a.toNat % 16) (operand r a s))

/-- R127, R135: destinations 1 and 20 do nothing to the state they see: the source operation, the advance of `S` and
the default fetch are the whole effect. -/
def Obligations.NoOpDestinationsDoNothing : Prop :=
  ∀ (a : Addr) (r : SrcOp) (s : State),
    exec (.dstNul1 a r) s = .next (seenBy r s) ∧ exec (.dstNul2 a r) s = .next (seenBy r s)

/-- R128, R129, R131, R204, R205: destinations 2, 3 and 10 emit the whole word on the console, the punch and the
speaker (the pairing is the spec's decision D14, log entry 16): nothing on a port that is not connected (D21), one
event on one that takes the word, no next state on one that does not.  Nothing else changes. -/
def Obligations.PortDestinationsEmitOneEvent : Prop :=
  ∀ (a : Addr) (r : SrcOp) (s : State),
    Emits (.dstPrint a r) r .console a s ∧ Emits (.dstPunch a r) r .punch a s ∧ Emits (.dstSpeak a r) r .speaker a s

/-! ## Destination rows that compute, for every source -/

/-- R151, R152, R166: destinations 5 and 6 add the value to `Acc` and subtract it from `Acc`, modulo `2^20`; nothing
else changes. -/
def Obligations.AccAddAndSubtractWrap : Prop :=
  ∀ (a : Addr) (r : SrcOp) (s : State),
    exec (.dstAdd a r) s = .next { seenBy r s with
      acc := BitVec.ofNat 20 ((accAfter r s).toNat + (operand r a s).toNat) } ∧
    exec (.dstSub a r) s = .next { seenBy r s with
      acc := BitVec.ofInt 20 (((accAfter r s).toNat : Int) - ((operand r a s).toNat : Int)) }

/-- R153, R154, R155: destinations 7, 8, 9 replace each bit of `Acc` by its AND, OR, exclusive OR with the value's
bit; nothing else changes. -/
def Obligations.AccLogicIsBitByBit : Prop :=
  ∀ (a : Addr) (r : SrcOp) (s : State), ∃ x y z : Word,
    exec (.dstAnd a r) s = .next { seenBy r s with acc := x } ∧
    exec (.dstOr a r) s = .next { seenBy r s with acc := y } ∧
    exec (.dstXor a r) s = .next { seenBy r s with acc := z } ∧
    ∀ n : Nat, n < 20 →
      x.getLsbD n = ((accAfter r s).getLsbD n && (operand r a s).getLsbD n) ∧
      y.getLsbD n = ((accAfter r s).getLsbD n || (operand r a s).getLsbD n) ∧
      z.getLsbD n = ((accAfter r s).getLsbD n != (operand r a s).getLsbD n)

/-- R156, R157, R166: destinations 15 and 16 add the value to `Aux` and subtract it from `Aux`, modulo `2^20`;
nothing else changes. -/
def Obligations.AuxAddAndSubtractWrap : Prop :=
  ∀ (a : Addr) (r : SrcOp) (s : State),
    exec (.dstAuxAdd a r) s = .next { seenBy r s with
      aux := BitVec.ofNat 20 (s.aux.toNat + (operand r a s).toNat) } ∧
    exec (.dstAuxSub a r) s = .next { seenBy r s with
      aux := BitVec.ofInt 20 ((s.aux.toNat : Int) - ((operand r a s).toNat : Int)) }

/-- R164, R165, R166: destinations 18 and 19 add the value to, and subtract it from, the general register that the
low four bits of the address field name (the spec's decision D7, log entry 11), modulo `2^20`; nothing else
changes. -/
def Obligations.GeneralRegisterAddAndSubtractWrap : Prop :=
  ∀ (a : Addr) (r : SrcOp) (s : State) (j : Fin 16), a.toNat % 16 = j.val →
    exec (.dstGAdd a r) s = .next (withG (seenBy r s) j.val
      (BitVec.ofNat 20 (s.g[j].toNat + (operand r a s).toNat))) ∧
    exec (.dstGSub a r) s = .next (withG (seenBy r s) j.val
      (BitVec.ofInt 20 ((s.g[j].toNat : Int) - ((operand r a s).toNat : Int))))

/-- R166, R12: read as two's-complement integers, add and subtract are integer add and subtract brought back into
the range of a word. -/
def Obligations.AddAndSubtractAreTwosComplement : Prop :=
  ∀ x y : Word,
    sval (add20 x y) = (sval x + sval y).bmod (2 ^ 20) ∧
    sval (sub20 x y) = (sval x - sval y).bmod (2 ^ 20) ∧
    -(2 ^ 19) ≤ sval x ∧ sval x < 2 ^ 19 ∧ BitVec.ofInt 20 (sval x) = x

/-- R158: destination 12 multiplies the 19-bit magnitudes of the value and of `Aux`, adds the top 19 product bits
with the product's sign in bit 20 into `Acc` (modulo `2^20`), and puts the bottom 19 product bits, shifted left by
one, into `Mul`; nothing else changes, and the old `Mul` does not matter.  The place of the sign is the spec's
decision D2 (log entry 12). -/
def Obligations.MultiplyAccumulates : Prop :=
  ∀ (a : Addr) (r : SrcOp) (s : State),
    exec (.dstMpy a r) s = .next { seenBy r s with
      acc := BitVec.ofNat 20 ((accAfter r s).toNat
        + (if neg (operand r a s) = neg s.aux then 0 else 2 ^ 19)
        + mag (operand r a s) * mag s.aux / 2 ^ 19)
      mul := BitVec.ofNat 20 (2 * (mag (operand r a s) * mag s.aux % 2 ^ 19)) }

/-- R159, R160: when `Acc` is 0 as destination 12 runs, the magnitude and sign left in `Acc` are those of the
fractional product truncated to 19 bits, and `Acc` and `Mul` together hold the whole 38-bit product (the place of
the sign: D2). -/
def Obligations.MultiplyFromZeroHoldsTheWholeProduct : Prop :=
  ∀ (a : Addr) (r : SrcOp) (s : State), accAfter r s = 0 →
    ∃ t, exec (.dstMpy a r) s = .next t ∧
      neg t.acc = (neg (operand r a s) ^^ neg s.aux) ∧
      mag t.acc = mag (operand r a s) * mag s.aux / 2 ^ 19 ∧
      mag t.acc * 2 ^ 19 + t.mul.toNat / 2 = mag (operand r a s) * mag s.aux

/-- R161: destination 13 does nothing when bit 20 of the value is 0; otherwise it rotates the 40-bit value
`Acc:Mul` left by bits 15..12 of the value plus one.  Nothing else changes. -/
def Obligations.CombinedShiftRotatesAccMul : Prop :=
  ∀ (a : Addr) (r : SrcOp) (s : State),
    ((operand r a s).toNat < 2 ^ 19 → exec (.dstShl a r) s = .next (seenBy r s)) ∧
    (2 ^ 19 ≤ (operand r a s).toNat →
      ∃ x y : Word, exec (.dstShl a r) s = .next { seenBy r s with acc := x, mul := y } ∧
        x ++ y = (accAfter r s ++ s.mul).rotateLeft ((operand r a s).toNat / 2 ^ 11 % 16 + 1))

/-! ## Destination rows that change the flow -/

/-- R171, R172: destination 23 puts the value into `S`, destination 24 adds it to the advanced `S` modulo `2^20`,
and each fetches `I` from the main store at the new `Hi(S)`; nothing else changes. -/
def Obligations.JumpsSetSAndFetch : Prop :=
  ∀ (a : Addr) (r : SrcOp) (s : State),
    exec (.dstJmp a r) s = .next { seenBy r s with
      seq := operand r a s, ir := s.main.read ((operand r a s).toNat / 2 ^ 10) } ∧
    (let target := (s.seq.toNat + 0x00400 + (operand r a s).toNat) % 2 ^ 20
     exec (.dstJRel a r) s = .next { seenBy r s with
      seq := BitVec.ofNat 20 target, ir := s.main.read (target / 2 ^ 10) })

/-- R173: destination 25 adds one unit to the advanced `S` for each of bits 11..1 and bits 20..15 of the value that
is not all zero, and fetches `I` from the new `Hi(S)`; nothing else changes. -/
def Obligations.SkipAddsOneUnitForEachRange : Prop :=
  ∀ (a : Addr) (r : SrcOp) (s : State),
    let v := (operand r a s).toNat
    let units := 1 + (if v % 2 ^ 11 = 0 then 0 else 1) + (if v / 2 ^ 14 = 0 then 0 else 1)
    let target := (s.seq.toNat + 0x00400 * units) % 2 ^ 20
    exec (.dstSkip a r) s = .next { seenBy r s with
      seq := BitVec.ofNat 20 target, ir := s.main.read (target / 2 ^ 10) }

/-- R174: destination 26 adds the low half of the value into the address field of the staged instruction, modulo
1024; the staged word's other fields, `S`, the stores and everything else stay, and there is no new fetch.  The
shift by 10 places is the spec's decision D15 (log entry 17). -/
def Obligations.InstructionModifyAddsIntoTheAddressField : Prop :=
  ∀ (a : Addr) (r : SrcOp) (s : State), ∃ x : Word,
    exec (.dstIMod a r) s = .next { seenBy r s with ir := x } ∧
    x.toNat / 2 ^ 10 = ((seenBy r s).ir.toNat / 2 ^ 10 + (operand r a s).toNat % 2 ^ 10) % 2 ^ 10 ∧
    x.toNat % 2 ^ 10 = (seenBy r s).ir.toNat % 2 ^ 10

/-- R175, R184: destination 31 sets the run state to `Stopped` when the value is not zero and does nothing
otherwise; `S` has advanced and `I` holds the default-fetched word; nothing else changes. -/
def Obligations.StopHaltsOnANonZeroValue : Prop :=
  ∀ (a : Addr) (r : SrcOp) (s : State),
    exec (.dstStop a r) s = .next { seenBy r s with
      run := if (operand r a s).toNat = 0 then s.run else .stopped }

/-! ## Whole-machine rules -/

/-- R23 to R27: each register is written only by the operations the rule lists: `Acc` by destinations 4 to 9, 12, 13
and source 9; `Mul` by 11, 12, 13; `Aux` by 14, 15, 16; `Half` by 21, 22; a general register by 17, 18, 19 and then
only the one that the low four bits of the address field name (D7). -/
def Obligations.EachRegisterIsWrittenOnlyByItsOperations : Prop :=
  ∀ (i : Instr) (s t : State), exec i s = .next t →
    (i.srcOp ≠ .accz → i.dstOp ∉ [.acc, .add, .sub, .and, .or, .xor, .mpy, .shl] → t.acc = s.acc) ∧
    (i.dstOp ∉ [.mul, .mpy, .shl] → t.mul = s.mul) ∧
    (i.dstOp ∉ [.aux, .auxadd, .auxsub] → t.aux = s.aux) ∧
    (i.dstOp ∉ [.half, .halfu] → t.half = s.half) ∧
    (∀ j : Fin 16, i.dstOp ∉ [.g, .gadd, .gsub] ∨ j.val ≠ i.addr.toNat % 16 → t.g[j] = s.g[j])

/-- R30, R33, R176: `S` moves on by exactly one unit unless the destination is 23, 24 or 25; `I` then holds the word
the main store held, at the new `Hi(S)`, before the destination ran, unless the destination is 26; after 23, 24 and
25 it holds the word at the `Hi(S)` they leave. -/
def Obligations.SequenceAndStagedInstructionAfterAStep : Prop :=
  ∀ (i : Instr) (s t : State), exec i s = .next t →
    (i.dstOp ∉ [.jmp, .jrel, .skip] → t.seq = s.seq + 0x00400) ∧
    (i.dstOp ≠ .imod → t.ir = s.main.read (t.seq.toNat / 2 ^ 10))

/-- R31, R227: the advance goes from address 1023 to address 0 and keeps `Lo(S)`. -/
def Obligations.AdvanceWrapsAtTheTopOfTheStore : Prop :=
  ∀ s : State,
    (hi (advance s).seq).toNat = ((hi s.seq).toNat + 1) % 1024 ∧ lo (advance s).seq = lo s.seq

/-- R61, R224: a store into the cell of the next instruction changes the store, and the word already staged, the
old one, runs next. -/
def Obligations.StoreIntoTheNextWordIsNotSeenByTheStagedInstruction : Prop :=
  ∀ (a : Addr) (r : SrcOp) (s : State), a.toNat = (s.seq + 0x00400).toNat / 2 ^ 10 →
    ∃ t, exec (.dstM a r) s = .next t ∧ t.ir = s.main.read a.toNat ∧ t.main.read a.toNat = operand r a s

/-- R47, R48, R55: a store cell reads as before unless the instruction's destination is that store's and its address
field is that cell. -/
def Obligations.OnlyTheAddressedCellOfTheDestinationStoreChanges : Prop :=
  ∀ (i : Instr) (s t : State) (b : Nat), exec i s = .next t →
    (i.dstOp ≠ .m ∨ b ≠ i.addr.toNat → t.main.read b = s.main.read b) ∧
    (i.dstOp ≠ .x1 ∨ b ≠ i.addr.toNat → t.x1.read b = s.x1.read b) ∧
    (i.dstOp ≠ .x2 ∨ b ≠ i.addr.toNat → t.x2.read b = s.x2.read b) ∧
    (i.dstOp ≠ .x3 ∨ b ≠ i.addr.toNat → t.x3.read b = s.x3.read b) ∧
    (i.dstOp ≠ .x4 ∨ b ≠ i.addr.toNat → t.x4.read b = s.x4.read b)

/-- R35: the run state changes only from `Running` to `Stopped`, and only by destination 31 with a value that is not
zero. -/
def Obligations.OnlyStopChangesTheRunState : Prop :=
  ∀ (i : Instr) (s t : State), exec i s = .next t →
    t.run = s.run ∨ (i.dstOp = .stop ∧ operand i.srcOp i.addr s ≠ 0 ∧ t.run = .stopped)

/-- R34: no destination writes `In`, `SwA` or `SwB`; that sources 1, 2 and 3 leave them unchanged too is the spec's
decision D6 (log entry 10). -/
def Obligations.NoInstructionWritesTheInputRegisters : Prop :=
  ∀ (i : Instr) (s t : State), exec i s = .next t → t.inp = s.inp ∧ t.swA = s.swA ∧ t.swB = s.swB

/-- R39, R7: no instruction connects or disconnects a port, changes the run mode, or touches the host's schedule of
input values (the fields that hold them are the model's own, log entries 4 to 7). -/
def Obligations.NoInstructionChangesTheLaunchParameters : Prop :=
  ∀ (i : Instr) (s t : State), exec i s = .next t →
    (∀ p, t.ports.get p = .unconnected ↔ s.ports.get p = .unconnected) ∧ t.runMode = s.runMode ∧
    t.schedule = s.schedule

/-- R143, R198 (R198 is the spec's derivation): an instruction appends at most one event to the output, and only one
whose destination is 2, 3 or 10 does; the event carries the source value, on the port that decision D14 pairs with
the destination (log entry 16). -/
def Obligations.OutputGrowsByAtMostOneEventInOrder : Prop :=
  ∀ (i : Instr) (s t : State), exec i s = .next t →
    t.output = s.output ∨
    ∃ p, portOf i.dstOp = some p ∧ t.output = s.output ++ [{ port := p, word := operand i.srcOp i.addr s }]

/-- R204: the ports decide nothing about the core: with no port connected the step leaves the same state, but for the
ports and the output, which stays as it was. -/
def Obligations.UnconnectedPortsChangeOnlyTheOutput : Prop :=
  ∀ (s t : State) (u : Ports), u = { console := .unconnected, punch := .unconnected, speaker := .unconnected } →
    step s = .next t → step { s with ports := u } = .next { t with ports := u, output := s.output }

/-- R187: the run mode changes only when steps happen, never what a step does. -/
def Obligations.RunModeNeverChangesAStep : Prop :=
  ∀ (s t : State) (m : RunMode),
    (step s = .next t → step { s with runMode := m } = .next { t with runMode := m }) ∧
    (∀ f, step s = .fault f → step { s with runMode := m } = .fault f)

/-- R187, R210: in free-running mode the machine takes its step at every moment, in paced mode at a tick; a paced
machine without a tick waits unchanged. -/
def Obligations.PacedModeTakesOneStepPerTick : Prop :=
  ∀ (f : Nat → HostInputs) (s : State) (tick : Bool),
    (s.runMode = .free → clock f tick s = stepWith f s) ∧
    (s.runMode = .paced → clock f true s = stepWith f s ∧ clock f false s = .next s)

/-- R48: no instruction is fetched from an auxiliary store, and a word whose source is not 27..30 does not look at
one: with other contents in `X1..X4` it leaves the same state outside them, and in each of them every cell reads as
those contents do, but for the cell at the address field of the store that the destination writes, which reads the
same source value. -/
def Obligations.AuxiliaryStoresReachNothingButTheirSources : Prop :=
  ∀ (i : Instr) (s t : State) (m1 m2 m3 m4 : Memory), i.srcOp ∉ [.x1, .x2, .x3, .x4] →
    exec i s = .next t → ∃ n1 n2 n3 n4,
      exec i { s with x1 := m1, x2 := m2, x3 := m3, x4 := m4 } =
        .next { t with x1 := n1, x2 := n2, x3 := n3, x4 := n4 } ∧
      ∀ b : Nat,
        n1.read b = (if i.dstOp = .x1 ∧ b = i.addr.toNat then operand i.srcOp i.addr s else m1.read b) ∧
        n2.read b = (if i.dstOp = .x2 ∧ b = i.addr.toNat then operand i.srcOp i.addr s else m2.read b) ∧
        n3.read b = (if i.dstOp = .x3 ∧ b = i.addr.toNat then operand i.srcOp i.addr s else m3.read b) ∧
        n4.read b = (if i.dstOp = .x4 ∧ b = i.addr.toNat then operand i.srcOp i.addr s else m4.read b)

/-! ## Invariants, reset and runs -/

/-- The five stores keep their canonical form under every step, from every state that has it (R22, R46: addresses
0..1023, 20-bit words). -/
def Obligations.EveryStepKeepsTheStoresCanonical : Prop :=
  ∀ s t : State, s.wf = true → step s = .next t → t.wf = true

/-- Every launch meets the invariant of the stores, reset itself among them. -/
def Obligations.EveryLaunchHasCanonicalStores : Prop :=
  State.reset.wf = true ∧ ∀ actions : List LaunchAction, (launch actions).wf = true

/-- Two stores in canonical form that read alike at every address are the same store (R46: a store is its 1024
words). -/
def Obligations.CanonicalStoresThatReadAlikeAreEqual : Prop :=
  ∀ m n : Memory, m.wf = true → n.wf = true → (∀ a : Addr, m.read a.toNat = n.read a.toNat) → m = n

/-- R22, R41, R216: reset leaves `Acc`, `Mul`, `Aux`, `Half` and every general register 0, and the run state
`Running`; `S`, `I` and the inputs 0 and every unloaded cell 0 are the spec's decisions D4, D6, D5 (log entries 8, 10,
9). -/
def Obligations.ResetValues : Prop :=
  State.reset.acc = 0x00000 ∧ State.reset.mul = 0x00000 ∧ State.reset.aux = 0x00000 ∧ State.reset.half = 0x000 ∧
  (∀ j : Fin 16, State.reset.g[j] = 0x00000) ∧ State.reset.run = .running ∧
  State.reset.seq = 0x00000 ∧ State.reset.ir = 0x00000 ∧
  State.reset.inp = 0x00000 ∧ State.reset.swA = 0x00000 ∧ State.reset.swB = 0x00000 ∧
  (∀ (k : StoreId) (a : Addr), memRead k a State.reset = 0x00000)

/-- R218, R41: after launch a cell holds the word loaded into it last, and a cell that the load does not give holds 0
(D5, log entry 9). -/
def Obligations.LaunchLoadsTheStores : Prop :=
  ∀ (before after : List LaunchAction) (k : StoreId) (a : Addr),
    (∀ v, LaunchAction.load k a v ∉ after) →
    (∀ v, memRead k a (launch (before ++ .load k a v :: after)) = v) ∧
    memRead k a (launch after) = 0x00000

/-- R217 (derived in the spec from D4, log entry 8): from `S = 0` and `I = 0`, as reset leaves them, the first step
executes the word 0, and whatever the stores hold it leaves `S = 0x00400` and `I = M[1]` and changes nothing else
(the host keeping its input values). -/
def Obligations.FirstStepAfterResetOnlyFetches : Prop :=
  ∀ s : State, s.run = .running → s.seq = 0x00000 → s.ir = 0x00000 → s.wf = true → s.schedule = .keep →
    step s = .next { s with seq := 0x00400, ir := s.main.read 1 }

/-- R220: both ways of entering at address `e` bring the word `M[e]` into `I` with `Hi(S) = e`: the first after the
no-op step from `S` one unit below `e` and `I = 0`, the second at once. -/
def Obligations.EnteringAtAnAddress : Prop :=
  ∀ (s : State) (e : Addr), s.run = .running →
    (∃ t, step ((s.setSeq ((e - 1).setWidth 20 <<< 10)).setIr 0) = .next t ∧
      (hi t.seq) = e ∧ lo t.seq = 0 ∧ t.ir = memRead .main e s) ∧
    (hi (enterAt e s).seq = e ∧ (enterAt e s).ir = memRead .main e s)

/-- R185 (D16), R190: once a run has stopped normally, more moments change neither its end nor its state; and it has
stopped normally exactly when its last state is `Stopped`. -/
def Obligations.StoppedRunIsFinal : Prop :=
  ∀ (f : Nat → HostInputs) (ts us : List Bool) (s : State),
    ((runOver f ts s).ending = .stoppedNormally ↔ (runOver f ts s).final.run = .stopped) ∧
    ((runOver f ts s).ending = .stoppedNormally → runOver f (ts ++ us) s = runOver f ts s)

/-- R188 (D17), R205: a paced run that the host gives no more ticks is abandoned, still `Running`, in the state after
the last completed step; a run ends stuck only where a step has no next state because of that port. -/
def Obligations.AbandonedAndStuckRuns : Prop :=
  ∀ (f : Nat → HostInputs) (ts : List Bool) (s : State),
    ((runOver f ts s).ending = .abandoned → (runOver f ts s).final.run = .running ∧ (runOver f ts s).final.runMode = .paced) ∧
    (∀ p, (runOver f ts s).ending = .stuck p → stepWith f (runOver f ts s).final = .fault (.portBlocked p)) ∧
    (runOver f ts s).ending ≠ .refused

/-- R40, R192: the trace port shows the run and changes nothing: its first entry is the first state, its last the
run's final state, and entry `k` is the state in which the run over the first `k` moments ends, so it shows every step
boundary of the run that nobody traces.  In paced mode too: D18 (log entry 19); one entry for each moment, a moment
without a tick among them, and one at the end: the model's choice (log entry 26). -/
def Obligations.TraceShowsTheRunAndChangesNothing : Prop :=
  ∀ (f : Nat → HostInputs) (ts : List Bool) (s : State),
    (trace f ts s).head? = some s ∧
    (trace f ts s).getLast? = some (runOver f ts s).final ∧
    (∀ k, k < (trace f ts s).length → (trace f ts s)[k]? = some (runOver f (ts.take k) s).final) ∧
    (trace f ts s).length ≤ ts.length + 1 ∧
    ((∀ p, (runOver f ts s).ending ≠ .stuck p) → (runOver f ts s).final.run = .running →
      (trace f ts s).length = ts.length + 1)

/-- R7, R42, D6: under the launch parameter `host_input_schedule` `f`, which may be any function and has no end, the
state before step number `n` of a running machine has `In`, `SwA`, `SwB` as `f n` gives them, for every `n`; a wait
of a paced machine is no step.  The trace and its moments are the model's form (log entries 6, 21, 26). -/
def Obligations.ScheduledInputsHoldDuringEveryStep : Prop :=
  ∀ (f : Nat → HostInputs) (ts : List Bool) (s u : State) (k : Nat),
    (trace f ts (startSchedule f s))[k]? = some u → u.run = .running →
      let x := f (stepsOver s.runMode (ts.take k))
      u.inp = x.inp ∧ u.swA = x.swA ∧ u.swB = x.swB
end

