-- ==== Sys2Proof/Laws/Decode.lean ====
section
/-! SUPPORT. Sys2Proof/Laws/Decode.lean: the fields of an encoded word, the codes of the operations, and what a
reading holds. -/

namespace Sys2Proof

@[simp] theorem SrcOp.ofCode_code (r : SrcOp) : SrcOp.ofCode r.code = r := by cases r <;> rfl

@[simp] theorem DstOp.ofCode_code (d : DstOp) : DstOp.ofCode d.code = d := by cases d <;> rfl

@[simp] theorem SrcOp.code_ofCode (k : BitVec 5) : (SrcOp.ofCode k).code = k := by
  revert k; decide

@[simp] theorem DstOp.code_ofCode (k : BitVec 5) : (DstOp.ofCode k).code = k := by
  revert k; decide

theorem hi_encodeFields (a : Addr) (r : SrcOp) (d : DstOp) : hi (encodeFields a r d) = a := by
  unfold hi encodeFields
  generalize r.code = x
  generalize d.code = y
  ext i hi
  simp only [BitVec.getElem_extractLsb', BitVec.getLsbD_or, BitVec.getLsbD_shiftLeft, BitVec.getLsbD_setWidth]
  have h1 : 10 + i < 20 := by omega
  have h2 : ¬ 10 + i < 10 := by omega
  have h3 : ¬ 10 + i < 5 := by omega
  have h4 : x.getLsbD (10 + i - 5) = false := BitVec.getLsbD_of_ge _ _ (by omega)
  have h5 : y.getLsbD (10 + i) = false := BitVec.getLsbD_of_ge _ _ (by omega)
  simp [h1, h2, h4, h5, hi, BitVec.getLsbD_eq_getElem]
  intro; omega

theorem srcField_encodeFields (a : Addr) (r : SrcOp) (d : DstOp) : srcField (encodeFields a r d) = r.code := by
  unfold srcField encodeFields
  generalize r.code = x
  generalize d.code = y
  ext i hi
  simp only [BitVec.getElem_extractLsb', BitVec.getLsbD_or, BitVec.getLsbD_shiftLeft, BitVec.getLsbD_setWidth]
  have h1 : 5 + i < 20 := by omega
  have h2 : 5 + i < 10 := by omega
  simp [h1, h2, hi, BitVec.getLsbD_eq_getElem]
  intro; omega

theorem dstField_encodeFields (a : Addr) (r : SrcOp) (d : DstOp) : dstField (encodeFields a r d) = d.code := by
  unfold dstField encodeFields
  generalize r.code = x
  generalize d.code = y
  ext i hi
  simp only [BitVec.getElem_extractLsb', BitVec.getLsbD_or, BitVec.getLsbD_shiftLeft, BitVec.getLsbD_setWidth]
  have h1 : i < 20 := by omega
  have h2 : i < 10 := by omega
  simp [h1, h2, hi, BitVec.getLsbD_eq_getElem]

section
variable (a : Addr) (r : SrcOp) (d : DstOp)

@[simp] theorem sourceReading_addr : (sourceReading a r d).addr = a := by cases r <;> rfl
@[simp] theorem sourceReading_srcOp : (sourceReading a r d).srcOp = r := by cases r <;> rfl
@[simp] theorem sourceReading_dstOp : (sourceReading a r d).dstOp = d := by cases r <;> rfl
@[simp] theorem sourceReading_format : (sourceReading a r d).format = .source := by cases r <;> rfl
@[simp] theorem destinationReading_addr : (destinationReading a r d).addr = a := by cases d <;> rfl
@[simp] theorem destinationReading_srcOp : (destinationReading a r d).srcOp = r := by cases d <;> rfl
@[simp] theorem destinationReading_dstOp : (destinationReading a r d).dstOp = d := by cases d <;> rfl
@[simp] theorem destinationReading_format : (destinationReading a r d).format = .destination := by cases d <;> rfl

end

/-- What a reading of a word holds: the three fields, and the half of the table it was read by. -/
theorem decodeAs_fields (f : Format) (w : Word) :
    (decodeAs f w).addr = hi w ∧ (decodeAs f w).srcOp = SrcOp.ofCode (srcField w) ∧
    (decodeAs f w).dstOp = DstOp.ofCode (dstField w) ∧ (decodeAs f w).format = f := by
  cases f <;> simp [decodeAs]

/-- An instruction is its half of the table and its three fields. -/
theorem Instr.ext_fields (i j : Instr) (hf : i.format = j.format) (ha : i.addr = j.addr) (hs : i.srcOp = j.srcOp)
    (hd : i.dstOp = j.dstOp) : i = j := by
  have key (i : Instr) : i = match i.format with
      | .source => sourceReading i.addr i.srcOp i.dstOp
      | .destination => destinationReading i.addr i.srcOp i.dstOp := by cases i <;> rfl
  rw [key i, key j, hf, ha, hs, hd]

end Sys2Proof
end

