-- ==== Sys2Proof/Laws/Memory.lean ====
section
/-! SUPPORT. Sys2Proof/Laws/Memory.lean: reading after writing a store, and that every store operation keeps the
canonical form. -/

namespace Sys2Proof.Machine.Memory

@[simp] theorem read_nil (a : Nat) : read [] a = unlistedWord := rfl

theorem read_cons (k : Nat) (x : Word) (m : Memory) (a : Nat) :
    read ((k, x) :: m) a = if k = a then x else read m a := rfl

/-- A read looks only at the entries of its own address. -/
theorem read_of_not_mem (m : Memory) (a : Nat) (h : ∀ c ∈ m, c.1 ≠ a) : read m a = unlistedWord := by
  induction m with
  | nil => rfl
  | cons c m ih =>
    rw [read_cons, if_neg (h c (by simp)), ih fun d hd => h d (by simp [hd])]

theorem erase_cons (k : Nat) (x : Word) (m : Memory) (a : Nat) :
    erase ((k, x) :: m) a = if k = a then erase m a else (k, x) :: erase m a := by
  by_cases hk : k = a <;> simp [erase, hk]

theorem read_erase (m : Memory) (a b : Nat) : read (erase m a) b = if b = a then unlistedWord else read m b := by
  induction m with
  | nil => simp [erase]
  | cons c m ih =>
    obtain ⟨k, x⟩ := c
    rw [erase_cons, read_cons]
    by_cases hk : k = a
    · subst hk
      rw [if_pos rfl, ih]
      by_cases hb : b = k
      · simp [hb]
      · simp [hb, Ne.symm hb]
    · rw [if_neg hk, read_cons, ih]
      by_cases hb : k = b
      · subst hb; simp [hk]
      · simp [hb]

/-- Inserting where the address has no entry adds just that entry. -/
theorem read_insert (m : Memory) (a b : Nat) (v : Word) (h : ∀ c ∈ m, c.1 ≠ a) :
    read (insert m a v) b = if b = a then v else read m b := by
  induction m with
  | nil =>
    by_cases hb : b = a
    · simp [insert, read_cons, hb]
    · simp [insert, read_cons, hb, Ne.symm hb]
  | cons c m ih =>
    obtain ⟨k, x⟩ := c
    have hk : k ≠ a := h (k, x) (by simp)
    have ih := ih fun d hd => h d (by simp [hd])
    by_cases hlt : a < k
    · by_cases hb : b = a
      · simp [insert, hlt, read_cons, hb]
      · simp [insert, hlt, read_cons, hb, Ne.symm hb]
    · by_cases hb : k = b
      · subst hb; simp [insert, hlt, read_cons, hk]
      · simp [insert, hlt, read_cons, hb, ih]

theorem erase_not_mem (m : Memory) (a : Nat) : ∀ c ∈ erase m a, c.1 ≠ a := by
  simp [erase]

/-- READ AFTER WRITE: the written address reads the value written, every other address as before (R47, R55, R58). -/
@[simp] theorem read_write (m : Memory) (a b : Nat) (v : Word) :
    read (write m a v) b = if b = a then v else read m b := by
  unfold write
  split
  · next h => simp [read_erase, h]
  · rw [read_insert _ _ _ _ (erase_not_mem m a), read_erase]; split <;> rfl

theorem wf_cons (k : Nat) (x : Word) (m : Memory) :
    wf ((k, x) :: m) = true ↔ k < storeSize ∧ x ≠ unlistedWord ∧ (∀ c ∈ m, k < c.1) ∧ wf m = true := by
  simp [wf, and_assoc]

theorem wf_nil : wf [] = true := rfl

theorem wf_erase (m : Memory) (a : Nat) (h : wf m = true) : wf (erase m a) = true := by
  induction m with
  | nil => rfl
  | cons c m ih =>
    obtain ⟨k, x⟩ := c
    obtain ⟨h1, h2, h3, h4⟩ := (wf_cons _ _ _).1 h
    by_cases hk : k = a
    · rw [erase_cons, if_pos hk]; exact ih h4
    · rw [erase_cons, if_neg hk, wf_cons]
      exact ⟨h1, h2, fun c hc => h3 c (List.mem_of_mem_filter hc), ih h4⟩

theorem mem_insert (m : Memory) (a : Nat) (v : Word) (c : Nat × Word) :
    c ∈ insert m a v ↔ c = (a, v) ∨ c ∈ m := by
  induction m with
  | nil => simp [insert]
  | cons d m ih =>
    obtain ⟨k, x⟩ := d
    simp only [insert]
    split
    · simp
    · simp only [List.mem_cons, ih]; tauto

theorem wf_insert (m : Memory) (a : Nat) (v : Word) (h : wf m = true) (ha : a < storeSize) (hv : v ≠ unlistedWord)
    (hn : ∀ c ∈ m, c.1 ≠ a) : wf (insert m a v) = true := by
  induction m with
  | nil => simpa [insert, wf_cons, wf_nil] using ⟨ha, hv⟩
  | cons c m ih =>
    obtain ⟨k, x⟩ := c
    obtain ⟨h1, h2, h3, h4⟩ := (wf_cons _ _ _).1 h
    have hk : k ≠ a := hn (k, x) (by simp)
    simp only [insert]
    split
    · next hlt =>
      rw [wf_cons]
      refine ⟨ha, hv, fun c hc => ?_, h⟩
      rcases List.mem_cons.1 hc with rfl | hc
      · exact hlt
      · exact hlt.trans (h3 c hc)
    · next hlt =>
      rw [wf_cons]
      refine ⟨h1, h2, fun c hc => ?_, ih h4 fun d hd => hn d (by simp [hd])⟩
      rcases (mem_insert _ _ _ _).1 hc with rfl | hc
      · simp only; omega
      · exact h3 c hc

/-- A write inside the store keeps the canonical form. -/
theorem wf_write (m : Memory) (a : Nat) (v : Word) (h : wf m = true) (ha : a < storeSize) :
    wf (write m a v) = true := by
  unfold write
  split
  · exact wf_erase m a h
  · next hv => exact wf_insert _ _ _ (wf_erase m a h) ha hv (erase_not_mem m a)

end Sys2Proof.Machine.Memory

namespace Sys2Proof.Machine

theorem addr_lt_storeSize (a : Addr) : a.toNat < storeSize := a.isLt

/-- The canonical form of the state, store by store. -/
theorem wf_iff (s : State) : s.wf = true ↔ ∀ k, (s.storeOf k).wf = true := by
  constructor
  · intro h k
    simp only [State.wf, Bool.and_eq_true] at h
    obtain ⟨⟨⟨⟨h0, h1⟩, h2⟩, h3⟩, h4⟩ := h
    cases k <;> assumption
  · intro h
    simp only [State.wf, Bool.and_eq_true]
    exact ⟨⟨⟨⟨h .main, h .x1⟩, h .x2⟩, h .x3⟩, h .x4⟩

end Sys2Proof.Machine
end

