-- ==== Sys2Proof/Laws/State.lean ====
section
/-! SUPPORT. Sys2Proof/Laws/State.lean: one lemma per field per named update of State, true by rfl, for simp. -/

namespace Sys2Proof.Machine.State

@[simp] theorem setAcc_acc (s : State) (v : Word) : (s.setAcc v).acc = v := rfl
@[simp] theorem setAcc_mul (s : State) (v : Word) : (s.setAcc v).mul = s.mul := rfl
@[simp] theorem setAcc_aux (s : State) (v : Word) : (s.setAcc v).aux = s.aux := rfl
@[simp] theorem setAcc_half (s : State) (v : Word) : (s.setAcc v).half = s.half := rfl
@[simp] theorem setAcc_g (s : State) (v : Word) : (s.setAcc v).g = s.g := rfl
@[simp] theorem setAcc_seq (s : State) (v : Word) : (s.setAcc v).seq = s.seq := rfl
@[simp] theorem setAcc_ir (s : State) (v : Word) : (s.setAcc v).ir = s.ir := rfl
@[simp] theorem setAcc_inp (s : State) (v : Word) : (s.setAcc v).inp = s.inp := rfl
@[simp] theorem setAcc_swA (s : State) (v : Word) : (s.setAcc v).swA = s.swA := rfl
@[simp] theorem setAcc_swB (s : State) (v : Word) : (s.setAcc v).swB = s.swB := rfl
@[simp] theorem setAcc_run (s : State) (v : Word) : (s.setAcc v).run = s.run := rfl
@[simp] theorem setAcc_main (s : State) (v : Word) : (s.setAcc v).main = s.main := rfl
@[simp] theorem setAcc_x1 (s : State) (v : Word) : (s.setAcc v).x1 = s.x1 := rfl
@[simp] theorem setAcc_x2 (s : State) (v : Word) : (s.setAcc v).x2 = s.x2 := rfl
@[simp] theorem setAcc_x3 (s : State) (v : Word) : (s.setAcc v).x3 = s.x3 := rfl
@[simp] theorem setAcc_x4 (s : State) (v : Word) : (s.setAcc v).x4 = s.x4 := rfl
@[simp] theorem setAcc_ports (s : State) (v : Word) : (s.setAcc v).ports = s.ports := rfl
@[simp] theorem setAcc_schedule (s : State) (v : Word) : (s.setAcc v).schedule = s.schedule := rfl
@[simp] theorem setAcc_runMode (s : State) (v : Word) : (s.setAcc v).runMode = s.runMode := rfl
@[simp] theorem setAcc_output (s : State) (v : Word) : (s.setAcc v).output = s.output := rfl
@[simp] theorem setAcc_storeOf (s : State) (v : Word) (k : StoreId) : (s.setAcc v).storeOf k = s.storeOf k := by cases k <;> rfl

@[simp] theorem setMul_acc (s : State) (v : Word) : (s.setMul v).acc = s.acc := rfl
@[simp] theorem setMul_mul (s : State) (v : Word) : (s.setMul v).mul = v := rfl
@[simp] theorem setMul_aux (s : State) (v : Word) : (s.setMul v).aux = s.aux := rfl
@[simp] theorem setMul_half (s : State) (v : Word) : (s.setMul v).half = s.half := rfl
@[simp] theorem setMul_g (s : State) (v : Word) : (s.setMul v).g = s.g := rfl
@[simp] theorem setMul_seq (s : State) (v : Word) : (s.setMul v).seq = s.seq := rfl
@[simp] theorem setMul_ir (s : State) (v : Word) : (s.setMul v).ir = s.ir := rfl
@[simp] theorem setMul_inp (s : State) (v : Word) : (s.setMul v).inp = s.inp := rfl
@[simp] theorem setMul_swA (s : State) (v : Word) : (s.setMul v).swA = s.swA := rfl
@[simp] theorem setMul_swB (s : State) (v : Word) : (s.setMul v).swB = s.swB := rfl
@[simp] theorem setMul_run (s : State) (v : Word) : (s.setMul v).run = s.run := rfl
@[simp] theorem setMul_main (s : State) (v : Word) : (s.setMul v).main = s.main := rfl
@[simp] theorem setMul_x1 (s : State) (v : Word) : (s.setMul v).x1 = s.x1 := rfl
@[simp] theorem setMul_x2 (s : State) (v : Word) : (s.setMul v).x2 = s.x2 := rfl
@[simp] theorem setMul_x3 (s : State) (v : Word) : (s.setMul v).x3 = s.x3 := rfl
@[simp] theorem setMul_x4 (s : State) (v : Word) : (s.setMul v).x4 = s.x4 := rfl
@[simp] theorem setMul_ports (s : State) (v : Word) : (s.setMul v).ports = s.ports := rfl
@[simp] theorem setMul_schedule (s : State) (v : Word) : (s.setMul v).schedule = s.schedule := rfl
@[simp] theorem setMul_runMode (s : State) (v : Word) : (s.setMul v).runMode = s.runMode := rfl
@[simp] theorem setMul_output (s : State) (v : Word) : (s.setMul v).output = s.output := rfl
@[simp] theorem setMul_storeOf (s : State) (v : Word) (k : StoreId) : (s.setMul v).storeOf k = s.storeOf k := by cases k <;> rfl

@[simp] theorem setAux_acc (s : State) (v : Word) : (s.setAux v).acc = s.acc := rfl
@[simp] theorem setAux_mul (s : State) (v : Word) : (s.setAux v).mul = s.mul := rfl
@[simp] theorem setAux_aux (s : State) (v : Word) : (s.setAux v).aux = v := rfl
@[simp] theorem setAux_half (s : State) (v : Word) : (s.setAux v).half = s.half := rfl
@[simp] theorem setAux_g (s : State) (v : Word) : (s.setAux v).g = s.g := rfl
@[simp] theorem setAux_seq (s : State) (v : Word) : (s.setAux v).seq = s.seq := rfl
@[simp] theorem setAux_ir (s : State) (v : Word) : (s.setAux v).ir = s.ir := rfl
@[simp] theorem setAux_inp (s : State) (v : Word) : (s.setAux v).inp = s.inp := rfl
@[simp] theorem setAux_swA (s : State) (v : Word) : (s.setAux v).swA = s.swA := rfl
@[simp] theorem setAux_swB (s : State) (v : Word) : (s.setAux v).swB = s.swB := rfl
@[simp] theorem setAux_run (s : State) (v : Word) : (s.setAux v).run = s.run := rfl
@[simp] theorem setAux_main (s : State) (v : Word) : (s.setAux v).main = s.main := rfl
@[simp] theorem setAux_x1 (s : State) (v : Word) : (s.setAux v).x1 = s.x1 := rfl
@[simp] theorem setAux_x2 (s : State) (v : Word) : (s.setAux v).x2 = s.x2 := rfl
@[simp] theorem setAux_x3 (s : State) (v : Word) : (s.setAux v).x3 = s.x3 := rfl
@[simp] theorem setAux_x4 (s : State) (v : Word) : (s.setAux v).x4 = s.x4 := rfl
@[simp] theorem setAux_ports (s : State) (v : Word) : (s.setAux v).ports = s.ports := rfl
@[simp] theorem setAux_schedule (s : State) (v : Word) : (s.setAux v).schedule = s.schedule := rfl
@[simp] theorem setAux_runMode (s : State) (v : Word) : (s.setAux v).runMode = s.runMode := rfl
@[simp] theorem setAux_output (s : State) (v : Word) : (s.setAux v).output = s.output := rfl
@[simp] theorem setAux_storeOf (s : State) (v : Word) (k : StoreId) : (s.setAux v).storeOf k = s.storeOf k := by cases k <;> rfl

@[simp] theorem setHalf_acc (s : State) (v : HalfWord) : (s.setHalf v).acc = s.acc := rfl
@[simp] theorem setHalf_mul (s : State) (v : HalfWord) : (s.setHalf v).mul = s.mul := rfl
@[simp] theorem setHalf_aux (s : State) (v : HalfWord) : (s.setHalf v).aux = s.aux := rfl
@[simp] theorem setHalf_half (s : State) (v : HalfWord) : (s.setHalf v).half = v := rfl
@[simp] theorem setHalf_g (s : State) (v : HalfWord) : (s.setHalf v).g = s.g := rfl
@[simp] theorem setHalf_seq (s : State) (v : HalfWord) : (s.setHalf v).seq = s.seq := rfl
@[simp] theorem setHalf_ir (s : State) (v : HalfWord) : (s.setHalf v).ir = s.ir := rfl
@[simp] theorem setHalf_inp (s : State) (v : HalfWord) : (s.setHalf v).inp = s.inp := rfl
@[simp] theorem setHalf_swA (s : State) (v : HalfWord) : (s.setHalf v).swA = s.swA := rfl
@[simp] theorem setHalf_swB (s : State) (v : HalfWord) : (s.setHalf v).swB = s.swB := rfl
@[simp] theorem setHalf_run (s : State) (v : HalfWord) : (s.setHalf v).run = s.run := rfl
@[simp] theorem setHalf_main (s : State) (v : HalfWord) : (s.setHalf v).main = s.main := rfl
@[simp] theorem setHalf_x1 (s : State) (v : HalfWord) : (s.setHalf v).x1 = s.x1 := rfl
@[simp] theorem setHalf_x2 (s : State) (v : HalfWord) : (s.setHalf v).x2 = s.x2 := rfl
@[simp] theorem setHalf_x3 (s : State) (v : HalfWord) : (s.setHalf v).x3 = s.x3 := rfl
@[simp] theorem setHalf_x4 (s : State) (v : HalfWord) : (s.setHalf v).x4 = s.x4 := rfl
@[simp] theorem setHalf_ports (s : State) (v : HalfWord) : (s.setHalf v).ports = s.ports := rfl
@[simp] theorem setHalf_schedule (s : State) (v : HalfWord) : (s.setHalf v).schedule = s.schedule := rfl
@[simp] theorem setHalf_runMode (s : State) (v : HalfWord) : (s.setHalf v).runMode = s.runMode := rfl
@[simp] theorem setHalf_output (s : State) (v : HalfWord) : (s.setHalf v).output = s.output := rfl
@[simp] theorem setHalf_storeOf (s : State) (v : HalfWord) (k : StoreId) : (s.setHalf v).storeOf k = s.storeOf k := by cases k <;> rfl

@[simp] theorem setGs_acc (s : State) (v : Vector Word 16) : (s.setGs v).acc = s.acc := rfl
@[simp] theorem setGs_mul (s : State) (v : Vector Word 16) : (s.setGs v).mul = s.mul := rfl
@[simp] theorem setGs_aux (s : State) (v : Vector Word 16) : (s.setGs v).aux = s.aux := rfl
@[simp] theorem setGs_half (s : State) (v : Vector Word 16) : (s.setGs v).half = s.half := rfl
@[simp] theorem setGs_g (s : State) (v : Vector Word 16) : (s.setGs v).g = v := rfl
@[simp] theorem setGs_seq (s : State) (v : Vector Word 16) : (s.setGs v).seq = s.seq := rfl
@[simp] theorem setGs_ir (s : State) (v : Vector Word 16) : (s.setGs v).ir = s.ir := rfl
@[simp] theorem setGs_inp (s : State) (v : Vector Word 16) : (s.setGs v).inp = s.inp := rfl
@[simp] theorem setGs_swA (s : State) (v : Vector Word 16) : (s.setGs v).swA = s.swA := rfl
@[simp] theorem setGs_swB (s : State) (v : Vector Word 16) : (s.setGs v).swB = s.swB := rfl
@[simp] theorem setGs_run (s : State) (v : Vector Word 16) : (s.setGs v).run = s.run := rfl
@[simp] theorem setGs_main (s : State) (v : Vector Word 16) : (s.setGs v).main = s.main := rfl
@[simp] theorem setGs_x1 (s : State) (v : Vector Word 16) : (s.setGs v).x1 = s.x1 := rfl
@[simp] theorem setGs_x2 (s : State) (v : Vector Word 16) : (s.setGs v).x2 = s.x2 := rfl
@[simp] theorem setGs_x3 (s : State) (v : Vector Word 16) : (s.setGs v).x3 = s.x3 := rfl
@[simp] theorem setGs_x4 (s : State) (v : Vector Word 16) : (s.setGs v).x4 = s.x4 := rfl
@[simp] theorem setGs_ports (s : State) (v : Vector Word 16) : (s.setGs v).ports = s.ports := rfl
@[simp] theorem setGs_schedule (s : State) (v : Vector Word 16) : (s.setGs v).schedule = s.schedule := rfl
@[simp] theorem setGs_runMode (s : State) (v : Vector Word 16) : (s.setGs v).runMode = s.runMode := rfl
@[simp] theorem setGs_output (s : State) (v : Vector Word 16) : (s.setGs v).output = s.output := rfl
@[simp] theorem setGs_storeOf (s : State) (v : Vector Word 16) (k : StoreId) : (s.setGs v).storeOf k = s.storeOf k := by cases k <;> rfl

@[simp] theorem setSeq_acc (s : State) (v : Word) : (s.setSeq v).acc = s.acc := rfl
@[simp] theorem setSeq_mul (s : State) (v : Word) : (s.setSeq v).mul = s.mul := rfl
@[simp] theorem setSeq_aux (s : State) (v : Word) : (s.setSeq v).aux = s.aux := rfl
@[simp] theorem setSeq_half (s : State) (v : Word) : (s.setSeq v).half = s.half := rfl
@[simp] theorem setSeq_g (s : State) (v : Word) : (s.setSeq v).g = s.g := rfl
@[simp] theorem setSeq_seq (s : State) (v : Word) : (s.setSeq v).seq = v := rfl
@[simp] theorem setSeq_ir (s : State) (v : Word) : (s.setSeq v).ir = s.ir := rfl
@[simp] theorem setSeq_inp (s : State) (v : Word) : (s.setSeq v).inp = s.inp := rfl
@[simp] theorem setSeq_swA (s : State) (v : Word) : (s.setSeq v).swA = s.swA := rfl
@[simp] theorem setSeq_swB (s : State) (v : Word) : (s.setSeq v).swB = s.swB := rfl
@[simp] theorem setSeq_run (s : State) (v : Word) : (s.setSeq v).run = s.run := rfl
@[simp] theorem setSeq_main (s : State) (v : Word) : (s.setSeq v).main = s.main := rfl
@[simp] theorem setSeq_x1 (s : State) (v : Word) : (s.setSeq v).x1 = s.x1 := rfl
@[simp] theorem setSeq_x2 (s : State) (v : Word) : (s.setSeq v).x2 = s.x2 := rfl
@[simp] theorem setSeq_x3 (s : State) (v : Word) : (s.setSeq v).x3 = s.x3 := rfl
@[simp] theorem setSeq_x4 (s : State) (v : Word) : (s.setSeq v).x4 = s.x4 := rfl
@[simp] theorem setSeq_ports (s : State) (v : Word) : (s.setSeq v).ports = s.ports := rfl
@[simp] theorem setSeq_schedule (s : State) (v : Word) : (s.setSeq v).schedule = s.schedule := rfl
@[simp] theorem setSeq_runMode (s : State) (v : Word) : (s.setSeq v).runMode = s.runMode := rfl
@[simp] theorem setSeq_output (s : State) (v : Word) : (s.setSeq v).output = s.output := rfl
@[simp] theorem setSeq_storeOf (s : State) (v : Word) (k : StoreId) : (s.setSeq v).storeOf k = s.storeOf k := by cases k <;> rfl

@[simp] theorem setIr_acc (s : State) (v : Word) : (s.setIr v).acc = s.acc := rfl
@[simp] theorem setIr_mul (s : State) (v : Word) : (s.setIr v).mul = s.mul := rfl
@[simp] theorem setIr_aux (s : State) (v : Word) : (s.setIr v).aux = s.aux := rfl
@[simp] theorem setIr_half (s : State) (v : Word) : (s.setIr v).half = s.half := rfl
@[simp] theorem setIr_g (s : State) (v : Word) : (s.setIr v).g = s.g := rfl
@[simp] theorem setIr_seq (s : State) (v : Word) : (s.setIr v).seq = s.seq := rfl
@[simp] theorem setIr_ir (s : State) (v : Word) : (s.setIr v).ir = v := rfl
@[simp] theorem setIr_inp (s : State) (v : Word) : (s.setIr v).inp = s.inp := rfl
@[simp] theorem setIr_swA (s : State) (v : Word) : (s.setIr v).swA = s.swA := rfl
@[simp] theorem setIr_swB (s : State) (v : Word) : (s.setIr v).swB = s.swB := rfl
@[simp] theorem setIr_run (s : State) (v : Word) : (s.setIr v).run = s.run := rfl
@[simp] theorem setIr_main (s : State) (v : Word) : (s.setIr v).main = s.main := rfl
@[simp] theorem setIr_x1 (s : State) (v : Word) : (s.setIr v).x1 = s.x1 := rfl
@[simp] theorem setIr_x2 (s : State) (v : Word) : (s.setIr v).x2 = s.x2 := rfl
@[simp] theorem setIr_x3 (s : State) (v : Word) : (s.setIr v).x3 = s.x3 := rfl
@[simp] theorem setIr_x4 (s : State) (v : Word) : (s.setIr v).x4 = s.x4 := rfl
@[simp] theorem setIr_ports (s : State) (v : Word) : (s.setIr v).ports = s.ports := rfl
@[simp] theorem setIr_schedule (s : State) (v : Word) : (s.setIr v).schedule = s.schedule := rfl
@[simp] theorem setIr_runMode (s : State) (v : Word) : (s.setIr v).runMode = s.runMode := rfl
@[simp] theorem setIr_output (s : State) (v : Word) : (s.setIr v).output = s.output := rfl
@[simp] theorem setIr_storeOf (s : State) (v : Word) (k : StoreId) : (s.setIr v).storeOf k = s.storeOf k := by cases k <;> rfl

@[simp] theorem setInputs_acc (s : State) (i : HostInputs) : (s.setInputs i).acc = s.acc := rfl
@[simp] theorem setInputs_mul (s : State) (i : HostInputs) : (s.setInputs i).mul = s.mul := rfl
@[simp] theorem setInputs_aux (s : State) (i : HostInputs) : (s.setInputs i).aux = s.aux := rfl
@[simp] theorem setInputs_half (s : State) (i : HostInputs) : (s.setInputs i).half = s.half := rfl
@[simp] theorem setInputs_g (s : State) (i : HostInputs) : (s.setInputs i).g = s.g := rfl
@[simp] theorem setInputs_seq (s : State) (i : HostInputs) : (s.setInputs i).seq = s.seq := rfl
@[simp] theorem setInputs_ir (s : State) (i : HostInputs) : (s.setInputs i).ir = s.ir := rfl
@[simp] theorem setInputs_inp (s : State) (i : HostInputs) : (s.setInputs i).inp = i.inp := rfl
@[simp] theorem setInputs_swA (s : State) (i : HostInputs) : (s.setInputs i).swA = i.swA := rfl
@[simp] theorem setInputs_swB (s : State) (i : HostInputs) : (s.setInputs i).swB = i.swB := rfl
@[simp] theorem setInputs_run (s : State) (i : HostInputs) : (s.setInputs i).run = s.run := rfl
@[simp] theorem setInputs_main (s : State) (i : HostInputs) : (s.setInputs i).main = s.main := rfl
@[simp] theorem setInputs_x1 (s : State) (i : HostInputs) : (s.setInputs i).x1 = s.x1 := rfl
@[simp] theorem setInputs_x2 (s : State) (i : HostInputs) : (s.setInputs i).x2 = s.x2 := rfl
@[simp] theorem setInputs_x3 (s : State) (i : HostInputs) : (s.setInputs i).x3 = s.x3 := rfl
@[simp] theorem setInputs_x4 (s : State) (i : HostInputs) : (s.setInputs i).x4 = s.x4 := rfl
@[simp] theorem setInputs_ports (s : State) (i : HostInputs) : (s.setInputs i).ports = s.ports := rfl
@[simp] theorem setInputs_schedule (s : State) (i : HostInputs) : (s.setInputs i).schedule = s.schedule := rfl
@[simp] theorem setInputs_runMode (s : State) (i : HostInputs) : (s.setInputs i).runMode = s.runMode := rfl
@[simp] theorem setInputs_output (s : State) (i : HostInputs) : (s.setInputs i).output = s.output := rfl
@[simp] theorem setInputs_storeOf (s : State) (i : HostInputs) (k : StoreId) : (s.setInputs i).storeOf k = s.storeOf k := by cases k <;> rfl

@[simp] theorem setRun_acc (s : State) (r : RunState) : (s.setRun r).acc = s.acc := rfl
@[simp] theorem setRun_mul (s : State) (r : RunState) : (s.setRun r).mul = s.mul := rfl
@[simp] theorem setRun_aux (s : State) (r : RunState) : (s.setRun r).aux = s.aux := rfl
@[simp] theorem setRun_half (s : State) (r : RunState) : (s.setRun r).half = s.half := rfl
@[simp] theorem setRun_g (s : State) (r : RunState) : (s.setRun r).g = s.g := rfl
@[simp] theorem setRun_seq (s : State) (r : RunState) : (s.setRun r).seq = s.seq := rfl
@[simp] theorem setRun_ir (s : State) (r : RunState) : (s.setRun r).ir = s.ir := rfl
@[simp] theorem setRun_inp (s : State) (r : RunState) : (s.setRun r).inp = s.inp := rfl
@[simp] theorem setRun_swA (s : State) (r : RunState) : (s.setRun r).swA = s.swA := rfl
@[simp] theorem setRun_swB (s : State) (r : RunState) : (s.setRun r).swB = s.swB := rfl
@[simp] theorem setRun_run (s : State) (r : RunState) : (s.setRun r).run = r := rfl
@[simp] theorem setRun_main (s : State) (r : RunState) : (s.setRun r).main = s.main := rfl
@[simp] theorem setRun_x1 (s : State) (r : RunState) : (s.setRun r).x1 = s.x1 := rfl
@[simp] theorem setRun_x2 (s : State) (r : RunState) : (s.setRun r).x2 = s.x2 := rfl
@[simp] theorem setRun_x3 (s : State) (r : RunState) : (s.setRun r).x3 = s.x3 := rfl
@[simp] theorem setRun_x4 (s : State) (r : RunState) : (s.setRun r).x4 = s.x4 := rfl
@[simp] theorem setRun_ports (s : State) (r : RunState) : (s.setRun r).ports = s.ports := rfl
@[simp] theorem setRun_schedule (s : State) (r : RunState) : (s.setRun r).schedule = s.schedule := rfl
@[simp] theorem setRun_runMode (s : State) (r : RunState) : (s.setRun r).runMode = s.runMode := rfl
@[simp] theorem setRun_output (s : State) (r : RunState) : (s.setRun r).output = s.output := rfl
@[simp] theorem setRun_storeOf (s : State) (r : RunState) (k : StoreId) : (s.setRun r).storeOf k = s.storeOf k := by cases k <;> rfl

@[simp] theorem setPorts_acc (s : State) (p : Ports) : (s.setPorts p).acc = s.acc := rfl
@[simp] theorem setPorts_mul (s : State) (p : Ports) : (s.setPorts p).mul = s.mul := rfl
@[simp] theorem setPorts_aux (s : State) (p : Ports) : (s.setPorts p).aux = s.aux := rfl
@[simp] theorem setPorts_half (s : State) (p : Ports) : (s.setPorts p).half = s.half := rfl
@[simp] theorem setPorts_g (s : State) (p : Ports) : (s.setPorts p).g = s.g := rfl
@[simp] theorem setPorts_seq (s : State) (p : Ports) : (s.setPorts p).seq = s.seq := rfl
@[simp] theorem setPorts_ir (s : State) (p : Ports) : (s.setPorts p).ir = s.ir := rfl
@[simp] theorem setPorts_inp (s : State) (p : Ports) : (s.setPorts p).inp = s.inp := rfl
@[simp] theorem setPorts_swA (s : State) (p : Ports) : (s.setPorts p).swA = s.swA := rfl
@[simp] theorem setPorts_swB (s : State) (p : Ports) : (s.setPorts p).swB = s.swB := rfl
@[simp] theorem setPorts_run (s : State) (p : Ports) : (s.setPorts p).run = s.run := rfl
@[simp] theorem setPorts_main (s : State) (p : Ports) : (s.setPorts p).main = s.main := rfl
@[simp] theorem setPorts_x1 (s : State) (p : Ports) : (s.setPorts p).x1 = s.x1 := rfl
@[simp] theorem setPorts_x2 (s : State) (p : Ports) : (s.setPorts p).x2 = s.x2 := rfl
@[simp] theorem setPorts_x3 (s : State) (p : Ports) : (s.setPorts p).x3 = s.x3 := rfl
@[simp] theorem setPorts_x4 (s : State) (p : Ports) : (s.setPorts p).x4 = s.x4 := rfl
@[simp] theorem setPorts_ports (s : State) (p : Ports) : (s.setPorts p).ports = p := rfl
@[simp] theorem setPorts_schedule (s : State) (p : Ports) : (s.setPorts p).schedule = s.schedule := rfl
@[simp] theorem setPorts_runMode (s : State) (p : Ports) : (s.setPorts p).runMode = s.runMode := rfl
@[simp] theorem setPorts_output (s : State) (p : Ports) : (s.setPorts p).output = s.output := rfl
@[simp] theorem setPorts_storeOf (s : State) (p : Ports) (k : StoreId) : (s.setPorts p).storeOf k = s.storeOf k := by cases k <;> rfl

@[simp] theorem setSchedule_acc (s : State) (l : InputSchedule) : (s.setSchedule l).acc = s.acc := rfl
@[simp] theorem setSchedule_mul (s : State) (l : InputSchedule) : (s.setSchedule l).mul = s.mul := rfl
@[simp] theorem setSchedule_aux (s : State) (l : InputSchedule) : (s.setSchedule l).aux = s.aux := rfl
@[simp] theorem setSchedule_half (s : State) (l : InputSchedule) : (s.setSchedule l).half = s.half := rfl
@[simp] theorem setSchedule_g (s : State) (l : InputSchedule) : (s.setSchedule l).g = s.g := rfl
@[simp] theorem setSchedule_seq (s : State) (l : InputSchedule) : (s.setSchedule l).seq = s.seq := rfl
@[simp] theorem setSchedule_ir (s : State) (l : InputSchedule) : (s.setSchedule l).ir = s.ir := rfl
@[simp] theorem setSchedule_inp (s : State) (l : InputSchedule) : (s.setSchedule l).inp = s.inp := rfl
@[simp] theorem setSchedule_swA (s : State) (l : InputSchedule) : (s.setSchedule l).swA = s.swA := rfl
@[simp] theorem setSchedule_swB (s : State) (l : InputSchedule) : (s.setSchedule l).swB = s.swB := rfl
@[simp] theorem setSchedule_run (s : State) (l : InputSchedule) : (s.setSchedule l).run = s.run := rfl
@[simp] theorem setSchedule_main (s : State) (l : InputSchedule) : (s.setSchedule l).main = s.main := rfl
@[simp] theorem setSchedule_x1 (s : State) (l : InputSchedule) : (s.setSchedule l).x1 = s.x1 := rfl
@[simp] theorem setSchedule_x2 (s : State) (l : InputSchedule) : (s.setSchedule l).x2 = s.x2 := rfl
@[simp] theorem setSchedule_x3 (s : State) (l : InputSchedule) : (s.setSchedule l).x3 = s.x3 := rfl
@[simp] theorem setSchedule_x4 (s : State) (l : InputSchedule) : (s.setSchedule l).x4 = s.x4 := rfl
@[simp] theorem setSchedule_ports (s : State) (l : InputSchedule) : (s.setSchedule l).ports = s.ports := rfl
@[simp] theorem setSchedule_schedule (s : State) (l : InputSchedule) : (s.setSchedule l).schedule = l := rfl
@[simp] theorem setSchedule_runMode (s : State) (l : InputSchedule) : (s.setSchedule l).runMode = s.runMode := rfl
@[simp] theorem setSchedule_output (s : State) (l : InputSchedule) : (s.setSchedule l).output = s.output := rfl
@[simp] theorem setSchedule_storeOf (s : State) (l : InputSchedule) (k : StoreId) : (s.setSchedule l).storeOf k = s.storeOf k := by cases k <;> rfl

@[simp] theorem setRunMode_acc (s : State) (m : RunMode) : (s.setRunMode m).acc = s.acc := rfl
@[simp] theorem setRunMode_mul (s : State) (m : RunMode) : (s.setRunMode m).mul = s.mul := rfl
@[simp] theorem setRunMode_aux (s : State) (m : RunMode) : (s.setRunMode m).aux = s.aux := rfl
@[simp] theorem setRunMode_half (s : State) (m : RunMode) : (s.setRunMode m).half = s.half := rfl
@[simp] theorem setRunMode_g (s : State) (m : RunMode) : (s.setRunMode m).g = s.g := rfl
@[simp] theorem setRunMode_seq (s : State) (m : RunMode) : (s.setRunMode m).seq = s.seq := rfl
@[simp] theorem setRunMode_ir (s : State) (m : RunMode) : (s.setRunMode m).ir = s.ir := rfl
@[simp] theorem setRunMode_inp (s : State) (m : RunMode) : (s.setRunMode m).inp = s.inp := rfl
@[simp] theorem setRunMode_swA (s : State) (m : RunMode) : (s.setRunMode m).swA = s.swA := rfl
@[simp] theorem setRunMode_swB (s : State) (m : RunMode) : (s.setRunMode m).swB = s.swB := rfl
@[simp] theorem setRunMode_run (s : State) (m : RunMode) : (s.setRunMode m).run = s.run := rfl
@[simp] theorem setRunMode_main (s : State) (m : RunMode) : (s.setRunMode m).main = s.main := rfl
@[simp] theorem setRunMode_x1 (s : State) (m : RunMode) : (s.setRunMode m).x1 = s.x1 := rfl
@[simp] theorem setRunMode_x2 (s : State) (m : RunMode) : (s.setRunMode m).x2 = s.x2 := rfl
@[simp] theorem setRunMode_x3 (s : State) (m : RunMode) : (s.setRunMode m).x3 = s.x3 := rfl
@[simp] theorem setRunMode_x4 (s : State) (m : RunMode) : (s.setRunMode m).x4 = s.x4 := rfl
@[simp] theorem setRunMode_ports (s : State) (m : RunMode) : (s.setRunMode m).ports = s.ports := rfl
@[simp] theorem setRunMode_schedule (s : State) (m : RunMode) : (s.setRunMode m).schedule = s.schedule := rfl
@[simp] theorem setRunMode_runMode (s : State) (m : RunMode) : (s.setRunMode m).runMode = m := rfl
@[simp] theorem setRunMode_output (s : State) (m : RunMode) : (s.setRunMode m).output = s.output := rfl
@[simp] theorem setRunMode_storeOf (s : State) (m : RunMode) (k : StoreId) : (s.setRunMode m).storeOf k = s.storeOf k := by cases k <;> rfl

@[simp] theorem setOutput_acc (s : State) (l : List PortEvent) : (s.setOutput l).acc = s.acc := rfl
@[simp] theorem setOutput_mul (s : State) (l : List PortEvent) : (s.setOutput l).mul = s.mul := rfl
@[simp] theorem setOutput_aux (s : State) (l : List PortEvent) : (s.setOutput l).aux = s.aux := rfl
@[simp] theorem setOutput_half (s : State) (l : List PortEvent) : (s.setOutput l).half = s.half := rfl
@[simp] theorem setOutput_g (s : State) (l : List PortEvent) : (s.setOutput l).g = s.g := rfl
@[simp] theorem setOutput_seq (s : State) (l : List PortEvent) : (s.setOutput l).seq = s.seq := rfl
@[simp] theorem setOutput_ir (s : State) (l : List PortEvent) : (s.setOutput l).ir = s.ir := rfl
@[simp] theorem setOutput_inp (s : State) (l : List PortEvent) : (s.setOutput l).inp = s.inp := rfl
@[simp] theorem setOutput_swA (s : State) (l : List PortEvent) : (s.setOutput l).swA = s.swA := rfl
@[simp] theorem setOutput_swB (s : State) (l : List PortEvent) : (s.setOutput l).swB = s.swB := rfl
@[simp] theorem setOutput_run (s : State) (l : List PortEvent) : (s.setOutput l).run = s.run := rfl
@[simp] theorem setOutput_main (s : State) (l : List PortEvent) : (s.setOutput l).main = s.main := rfl
@[simp] theorem setOutput_x1 (s : State) (l : List PortEvent) : (s.setOutput l).x1 = s.x1 := rfl
@[simp] theorem setOutput_x2 (s : State) (l : List PortEvent) : (s.setOutput l).x2 = s.x2 := rfl
@[simp] theorem setOutput_x3 (s : State) (l : List PortEvent) : (s.setOutput l).x3 = s.x3 := rfl
@[simp] theorem setOutput_x4 (s : State) (l : List PortEvent) : (s.setOutput l).x4 = s.x4 := rfl
@[simp] theorem setOutput_ports (s : State) (l : List PortEvent) : (s.setOutput l).ports = s.ports := rfl
@[simp] theorem setOutput_schedule (s : State) (l : List PortEvent) : (s.setOutput l).schedule = s.schedule := rfl
@[simp] theorem setOutput_runMode (s : State) (l : List PortEvent) : (s.setOutput l).runMode = s.runMode := rfl
@[simp] theorem setOutput_output (s : State) (l : List PortEvent) : (s.setOutput l).output = l := rfl
@[simp] theorem setOutput_storeOf (s : State) (l : List PortEvent) (k : StoreId) : (s.setOutput l).storeOf k = s.storeOf k := by cases k <;> rfl

@[simp] theorem setStore_acc (s : State) (k : StoreId) (m : Memory) : (s.setStore k m).acc = s.acc := by cases k <;> rfl
@[simp] theorem setStore_mul (s : State) (k : StoreId) (m : Memory) : (s.setStore k m).mul = s.mul := by cases k <;> rfl
@[simp] theorem setStore_aux (s : State) (k : StoreId) (m : Memory) : (s.setStore k m).aux = s.aux := by cases k <;> rfl
@[simp] theorem setStore_half (s : State) (k : StoreId) (m : Memory) : (s.setStore k m).half = s.half := by cases k <;> rfl
@[simp] theorem setStore_g (s : State) (k : StoreId) (m : Memory) : (s.setStore k m).g = s.g := by cases k <;> rfl
@[simp] theorem setStore_seq (s : State) (k : StoreId) (m : Memory) : (s.setStore k m).seq = s.seq := by cases k <;> rfl
@[simp] theorem setStore_ir (s : State) (k : StoreId) (m : Memory) : (s.setStore k m).ir = s.ir := by cases k <;> rfl
@[simp] theorem setStore_inp (s : State) (k : StoreId) (m : Memory) : (s.setStore k m).inp = s.inp := by cases k <;> rfl
@[simp] theorem setStore_swA (s : State) (k : StoreId) (m : Memory) : (s.setStore k m).swA = s.swA := by cases k <;> rfl
@[simp] theorem setStore_swB (s : State) (k : StoreId) (m : Memory) : (s.setStore k m).swB = s.swB := by cases k <;> rfl
@[simp] theorem setStore_run (s : State) (k : StoreId) (m : Memory) : (s.setStore k m).run = s.run := by cases k <;> rfl
@[simp] theorem setStore_ports (s : State) (k : StoreId) (m : Memory) : (s.setStore k m).ports = s.ports := by cases k <;> rfl
@[simp] theorem setStore_schedule (s : State) (k : StoreId) (m : Memory) : (s.setStore k m).schedule = s.schedule := by cases k <;> rfl
@[simp] theorem setStore_runMode (s : State) (k : StoreId) (m : Memory) : (s.setStore k m).runMode = s.runMode := by cases k <;> rfl
@[simp] theorem setStore_output (s : State) (k : StoreId) (m : Memory) : (s.setStore k m).output = s.output := by cases k <;> rfl

/-- A store written is the store read back, and no other store changes. -/
@[simp] theorem setStore_storeOf (s : State) (k j : StoreId) (m : Memory) :
    (s.setStore k m).storeOf j = if j = k then m else s.storeOf j := by
  cases k <;> cases j <;> rfl

/-- Two states are equal when all their fields are. -/
theorem ext_fields (s t : State)
    (h_acc : s.acc = t.acc)
    (h_mul : s.mul = t.mul)
    (h_aux : s.aux = t.aux)
    (h_half : s.half = t.half)
    (h_g : s.g = t.g)
    (h_seq : s.seq = t.seq)
    (h_ir : s.ir = t.ir)
    (h_inp : s.inp = t.inp)
    (h_swA : s.swA = t.swA)
    (h_swB : s.swB = t.swB)
    (h_run : s.run = t.run)
    (h_main : s.main = t.main)
    (h_x1 : s.x1 = t.x1)
    (h_x2 : s.x2 = t.x2)
    (h_x3 : s.x3 = t.x3)
    (h_x4 : s.x4 = t.x4)
    (h_ports : s.ports = t.ports)
    (h_schedule : s.schedule = t.schedule)
    (h_runMode : s.runMode = t.runMode)
    (h_output : s.output = t.output) : s = t := by
  cases s; cases t; simp_all

end Sys2Proof.Machine.State
end

