-- ==== Sys2Proof/Laws/Ops.lean ====
section
/-! SUPPORT. Sys2Proof/Laws/Ops.lean: one lemma for each shared operation of Machine/Ops.lean that says all it does. -/

namespace Sys2Proof.Machine

/-- A store write changes one cell of one store, for reads. -/
@[simp] theorem memRead_memWrite (k j : StoreId) (a b : Addr) (v : Word) (s : State) :
    memRead j b (memWrite k a v s) = if j = k ∧ b = a then v else memRead j b s := by
  unfold memRead memWrite
  rw [State.setStore_storeOf]
  by_cases hk : j = k
  · subst hk; simp [BitVec.toNat_inj]
  · simp [hk]

/-- A store write changes nothing but the store. -/
theorem memWrite_eq (k : StoreId) (a : Addr) (v : Word) (s : State) :
    memWrite k a v s = s.setStore k ((s.storeOf k).write a.toNat v) := rfl

/-- A store write keeps the canonical form. -/
theorem wf_memWrite (k : StoreId) (a : Addr) (v : Word) (s : State) (h : s.wf = true) :
    (memWrite k a v s).wf = true := by
  rw [wf_iff] at h ⊢
  intro j
  unfold memWrite
  rw [State.setStore_storeOf]
  split
  · exact Memory.wf_write _ _ _ (h k) (addr_lt_storeSize a)
  · exact h j

/-- A general register written reads back, the others are as before (R27). -/
@[simp] theorem readG_writeG (i j : GIndex) (v : Word) (s : State) :
    readG j (writeG i v s) = if j = i then v else readG j s := by
  unfold readG writeG
  simp only [State.setGs_g, Vector.getElem_set, ← BitVec.toNat_inj, eq_comm]

theorem advance_eq (s : State) : advance s = s.setSeq (s.seq + unit) := rfl

theorem advanceIf_eq (c : Bool) (s : State) : advanceIf c s = s.setSeq (if c then s.seq + unit else s.seq) := by
  cases c <;> rfl

theorem fetch_eq (s : State) : fetch s = s.setIr (memRead .main (hi s.seq) s) := rfl

theorem fetch_setSeq (s : State) (q : Word) :
    fetch (s.setSeq q) = (s.setSeq q).setIr (s.main.read (hi q).toNat) := rfl

/-- Everything an emission can do (R204, R205). -/
theorem emit_cases (p : Port) (v : Word) (s : State) :
    (s.ports.get p = .unconnected ∧ emit p v s = .next s) ∨
    (s.ports.get p = .takesAll ∧ emit p v s = .next (record p v s)) ∨
    (s.ports.get p = .takes 0 ∧ emit p v s = .fault (.portBlocked p)) ∨
    (∃ n, s.ports.get p = .takes (n + 1) ∧
      emit p v s = .next ((record p v s).setPorts (s.ports.set p (.takes n)))) := by
  unfold emit
  rcases h : s.ports.get p with _ | _ | n
  · simp
  · simp
  · cases n <;> simp

@[simp] theorem get_set (p : Ports) (i j : Port) (k : Sink) : (p.set i k).get j = if j = i then k else p.get j := by
  cases i <;> cases j <;> rfl

/-- The order of one instruction (R181). -/
theorem runInstr_eq (source : State → Word × State) (dest : Word → State → Result) (s : State) :
    runInstr source dest s = dest (source s).1 (fetch (advance (source s).2)) := rfl

/-- What the host does between steps (R42, R185). -/
theorem hostBetweenSteps_cases (f : Nat → HostInputs) (s : State) :
    (s.run = .running ∧ ((∃ i rest, s.schedule = .given i rest ∧
        hostBetweenSteps f s = (s.setInputs i).setSchedule rest) ∨
      (∃ k, s.schedule = .parameter k ∧
        hostBetweenSteps f s = (s.setInputs (f k)).setSchedule (.parameter (k + 1))))) ∨
    ((s.run = .stopped ∨ s.schedule = .keep) ∧ hostBetweenSteps f s = s) := by
  unfold hostBetweenSteps
  rcases s.run with _ | _ <;> rcases s.schedule with _ | ⟨i, rest⟩ | k <;> simp

/-- The host changes the input registers and its own schedule, and nothing else (R42, R212). -/
theorem hostBetweenSteps_eq (f : Nat → HostInputs) (s : State) :
    ∃ i l, hostBetweenSteps f s = (s.setInputs i).setSchedule l := by
  rcases hostBetweenSteps_cases f s with ⟨_, ⟨i, l, _, h⟩ | ⟨k, _, h⟩⟩ | ⟨_, h⟩
  · exact ⟨i, l, h⟩
  · exact ⟨f k, _, h⟩
  · exact ⟨⟨s.inp, s.swA, s.swB⟩, s.schedule, h⟩

end Sys2Proof.Machine
end

