-- ==== Sys2Proof/Laws/Exec.lean ====
section
/-! SUPPORT. Sys2Proof/Laws/Exec.lean: what the source unit, the destination unit, an instruction and a step can do,
each said once. -/

namespace Sys2Proof.Machine

/-- The source unit leaves the state alone but for source 9, which clears `Acc` (R118). -/
theorem readSource_state (r : SrcOp) (a : Addr) (s : State) :
    (readSource r a s).2 = if r = .accz then s.setAcc 0 else s := by
  cases r <;> rfl

/-- Every arm of exec is the source operation and the destination operation of its fields, in the step's order
(R72, R181). -/
theorem exec_eq_runInstr (i : Instr) (s : State) :
    exec i s = runInstr (readSource i.srcOp i.addr) (writeDest i.dstOp i.addr) s := by
  cases i <;> rfl

/-- What a step can do, under any schedule of the host. -/
theorem stepWith_cases (f : Nat → HostInputs) (s : State) :
    (s.run = .stopped ∧ stepWith f s = .fault .stopped) ∨
    (s.run = .running ∧
      ((∃ t, exec (decode s.ir) s = .next t ∧ stepWith f s = .next (hostBetweenSteps f t)) ∨
      (∃ e, exec (decode s.ir) s = .fault e ∧ stepWith f s = .fault e) ∨
      (∃ r, exec (decode s.ir) s = .refused r ∧ stepWith f s = .refused r))) := by
  unfold stepWith
  rcases s.run with _ | _
  · rcases exec (decode s.ir) s with t | e | r <;> simp
  · simp

/-- What a step can do. -/
theorem step_cases (s : State) :
    (s.run = .stopped ∧ step s = .fault .stopped) ∨
    (s.run = .running ∧
      ((∃ t, exec (decode s.ir) s = .next t ∧ step s = .next (hostBetweenSteps Config.hostInputSchedule t)) ∨
      (∃ e, exec (decode s.ir) s = .fault e ∧ step s = .fault e) ∨
      (∃ r, exec (decode s.ir) s = .refused r ∧ step s = .refused r))) :=
  stepWith_cases Config.hostInputSchedule s

/-- The instruction word that `withFetchWord` stages is the one a running machine's next step decodes. -/
theorem withFetchWord_ir (s : State) (nbits w : Nat) :
    (s.withFetchWord nbits w).ir = BitVec.ofNat 20 (w % 2 ^ nbits) := rfl

end Sys2Proof.Machine
end

