-- ==== Sys2Proof/Laws/PerInstr.lean ====
section
/-! SUPPORT. Sys2Proof/Laws/PerInstr.lean: the family `EncodedFields`: the encoder puts each operand of an
instruction where R66 says the field is, one lemma per constructor of `Instr`. -/

namespace Sys2Proof.Laws.EncodedFields

/-- Read back by field, the word of `i` holds its address field, its source code and its destination code. -/
def Statement (i : Instr) : Prop :=
  hi (encode i) = i.addr ∧ srcField (encode i) = i.srcOp.code ∧ dstField (encode i) = i.dstOp.code

theorem of_fields (i : Instr) : Statement i :=
  ⟨hi_encodeFields _ _ _, srcField_encodeFields _ _ _, dstField_encodeFields _ _ _⟩

theorem srcM (a : Addr) (d : DstOp) : Statement (.srcM a d) := of_fields _
theorem srcIn (a : Addr) (d : DstOp) : Statement (.srcIn a d) := of_fields _
theorem srcSwA (a : Addr) (d : DstOp) : Statement (.srcSwA a d) := of_fields _
theorem srcSwB (a : Addr) (d : DstOp) : Statement (.srcSwB a d) := of_fields _
theorem srcAcc (a : Addr) (d : DstOp) : Statement (.srcAcc a d) := of_fields _
theorem srcAccS (a : Addr) (d : DstOp) : Statement (.srcAccS a d) := of_fields _
theorem srcAccR (a : Addr) (d : DstOp) : Statement (.srcAccR a d) := of_fields _
theorem srcAccL (a : Addr) (d : DstOp) : Statement (.srcAccL a d) := of_fields _
theorem srcAcc1 (a : Addr) (d : DstOp) : Statement (.srcAcc1 a d) := of_fields _
theorem srcAccZ (a : Addr) (d : DstOp) : Statement (.srcAccZ a d) := of_fields _
theorem srcAccNZ (a : Addr) (d : DstOp) : Statement (.srcAccNZ a d) := of_fields _
theorem srcMul (a : Addr) (d : DstOp) : Statement (.srcMul a d) := of_fields _
theorem srcMulS (a : Addr) (d : DstOp) : Statement (.srcMulS a d) := of_fields _
theorem srcMulR (a : Addr) (d : DstOp) : Statement (.srcMulR a d) := of_fields _
theorem srcAux (a : Addr) (d : DstOp) : Statement (.srcAux a d) := of_fields _
theorem srcAuxS (a : Addr) (d : DstOp) : Statement (.srcAuxS a d) := of_fields _
theorem srcAuxR (a : Addr) (d : DstOp) : Statement (.srcAuxR a d) := of_fields _
theorem srcG (a : Addr) (d : DstOp) : Statement (.srcG a d) := of_fields _
theorem srcGS (a : Addr) (d : DstOp) : Statement (.srcGS a d) := of_fields _
theorem srcGR (a : Addr) (d : DstOp) : Statement (.srcGR a d) := of_fields _
theorem srcZero (a : Addr) (d : DstOp) : Statement (.srcZero a d) := of_fields _
theorem srcHalf (a : Addr) (d : DstOp) : Statement (.srcHalf a d) := of_fields _
theorem srcHalfU (a : Addr) (d : DstOp) : Statement (.srcHalfU a d) := of_fields _
theorem srcSeq (a : Addr) (d : DstOp) : Statement (.srcSeq a d) := of_fields _
theorem srcP11 (a : Addr) (d : DstOp) : Statement (.srcP11 a d) := of_fields _
theorem srcOne (a : Addr) (d : DstOp) : Statement (.srcOne a d) := of_fields _
theorem srcLit (a : Addr) (d : DstOp) : Statement (.srcLit a d) := of_fields _
theorem srcX1 (a : Addr) (d : DstOp) : Statement (.srcX1 a d) := of_fields _
theorem srcX2 (a : Addr) (d : DstOp) : Statement (.srcX2 a d) := of_fields _
theorem srcX3 (a : Addr) (d : DstOp) : Statement (.srcX3 a d) := of_fields _
theorem srcX4 (a : Addr) (d : DstOp) : Statement (.srcX4 a d) := of_fields _
theorem srcP20 (a : Addr) (d : DstOp) : Statement (.srcP20 a d) := of_fields _
theorem dstM (a : Addr) (r : SrcOp) : Statement (.dstM a r) := of_fields _
theorem dstNul1 (a : Addr) (r : SrcOp) : Statement (.dstNul1 a r) := of_fields _
theorem dstPrint (a : Addr) (r : SrcOp) : Statement (.dstPrint a r) := of_fields _
theorem dstPunch (a : Addr) (r : SrcOp) : Statement (.dstPunch a r) := of_fields _
theorem dstAcc (a : Addr) (r : SrcOp) : Statement (.dstAcc a r) := of_fields _
theorem dstAdd (a : Addr) (r : SrcOp) : Statement (.dstAdd a r) := of_fields _
theorem dstSub (a : Addr) (r : SrcOp) : Statement (.dstSub a r) := of_fields _
theorem dstAnd (a : Addr) (r : SrcOp) : Statement (.dstAnd a r) := of_fields _
theorem dstOr (a : Addr) (r : SrcOp) : Statement (.dstOr a r) := of_fields _
theorem dstXor (a : Addr) (r : SrcOp) : Statement (.dstXor a r) := of_fields _
theorem dstSpeak (a : Addr) (r : SrcOp) : Statement (.dstSpeak a r) := of_fields _
theorem dstMul (a : Addr) (r : SrcOp) : Statement (.dstMul a r) := of_fields _
theorem dstMpy (a : Addr) (r : SrcOp) : Statement (.dstMpy a r) := of_fields _
theorem dstShl (a : Addr) (r : SrcOp) : Statement (.dstShl a r) := of_fields _
theorem dstAux (a : Addr) (r : SrcOp) : Statement (.dstAux a r) := of_fields _
theorem dstAuxAdd (a : Addr) (r : SrcOp) : Statement (.dstAuxAdd a r) := of_fields _
theorem dstAuxSub (a : Addr) (r : SrcOp) : Statement (.dstAuxSub a r) := of_fields _
theorem dstG (a : Addr) (r : SrcOp) : Statement (.dstG a r) := of_fields _
theorem dstGAdd (a : Addr) (r : SrcOp) : Statement (.dstGAdd a r) := of_fields _
theorem dstGSub (a : Addr) (r : SrcOp) : Statement (.dstGSub a r) := of_fields _
theorem dstNul2 (a : Addr) (r : SrcOp) : Statement (.dstNul2 a r) := of_fields _
theorem dstHalf (a : Addr) (r : SrcOp) : Statement (.dstHalf a r) := of_fields _
theorem dstHalfU (a : Addr) (r : SrcOp) : Statement (.dstHalfU a r) := of_fields _
theorem dstJmp (a : Addr) (r : SrcOp) : Statement (.dstJmp a r) := of_fields _
theorem dstJRel (a : Addr) (r : SrcOp) : Statement (.dstJRel a r) := of_fields _
theorem dstSkip (a : Addr) (r : SrcOp) : Statement (.dstSkip a r) := of_fields _
theorem dstIMod (a : Addr) (r : SrcOp) : Statement (.dstIMod a r) := of_fields _
theorem dstX1 (a : Addr) (r : SrcOp) : Statement (.dstX1 a r) := of_fields _
theorem dstX2 (a : Addr) (r : SrcOp) : Statement (.dstX2 a r) := of_fields _
theorem dstX3 (a : Addr) (r : SrcOp) : Statement (.dstX3 a r) := of_fields _
theorem dstX4 (a : Addr) (r : SrcOp) : Statement (.dstX4 a r) := of_fields _
theorem dstStop (a : Addr) (r : SrcOp) : Statement (.dstStop a r) := of_fields _

end Sys2Proof.Laws.EncodedFields
end

