-- ==== Sys2Proof/Tests/Slice0.lean ====
section
/-! SUPPORT. Sys2Proof/Tests/Slice0.lean: tests whose expected values are the spec's (95_test_vectors.md and the rules
named), the smoke test of WellFormed, and for each statement with hypotheses a witness that meets them. -/

set_option autoImplicit false

namespace Sys2Proof.Tests

open Sys2Proof Sys2Proof.Machine Sys2Proof.Spec

/-- One field of the state an instruction leaves, if it leaves one. -/
def after {α : Type} (i : Instr) (s : State) (f : State → α) : Option α :=
  match exec i s with
  | .next t => some (f t)
  | .fault _ => none
  | .refused _ => none

/-- One field of the state a step leaves, if it leaves one. -/
def stepped {α : Type} (s : State) (f : State → α) : Option α :=
  match step s with
  | .next t => some (f t)
  | .fault _ => none
  | .refused _ => none

/-- The example state E of 40_source.md. -/
def stateE : State := launch [.setAcc 0x80005, .setMul 0x80003, .setAux 0xC0006, .setHalf 0x2AB, .setG 5 0x80009,
  .setSeq 0x01400, .setInputs ⟨0x12345, 0x0ABCD, 0xFEDCB⟩, .load .main 21 0x11111, .load .x1 21 0x22221,
  .load .x2 21 0x22222, .load .x3 21 0x22223, .load .x4 21 0x22224]

/-- The example state F of 41_dest_moves.md, with `G[5] = 9` (42_dest_arith.md) and `M[6] = 0x05005` (R174). -/
def stateF : State := launch [.setAcc 0x00005, .setMul 0x00003, .setAux 0x40000, .setG 5 0x00009, .setSeq 0x01400,
  .load .main 6 0x05005]

/-- State F with other `Acc`, `Mul`, `Aux`. -/
def regs (acc mul aux : Word) : State := ((stateF.setAcc acc).setMul mul).setAux aux

/-! ## WellFormed: the smoke test of its one check -/

theorem test_illformed_source_reading : Instr.wellFormed (.srcIn 21 .add) = false := by decide
theorem test_illformed_destination_reading : Instr.wellFormed (.dstM 21 .inp) = false := by decide
theorem test_wellformed_readings : Instr.wellFormed (.srcIn 21 .m) = true ∧ Instr.wellFormed (.dstAdd 21 .inp) = true := by
  decide

/-! ## Decoding, on words written out from `aaaaaaaaaa sssss ddddd` (R66): every constructor -/

theorem test_decode_source_rows_0_15 :
    decode 0b0000010101_00000_00000 = .srcM 21 .m ∧ decode 0b0000010101_00001_00000 = .srcIn 21 .m ∧
    decode 0b0000010101_00010_00000 = .srcSwA 21 .m ∧ decode 0b0000010101_00011_00000 = .srcSwB 21 .m ∧
    decode 0b0000010101_00100_00000 = .srcAcc 21 .m ∧ decode 0b0000010101_00101_00000 = .srcAccS 21 .m ∧
    decode 0b0000010101_00110_00000 = .srcAccR 21 .m ∧ decode 0b0000010101_00111_00000 = .srcAccL 21 .m ∧
    decode 0b0000010101_01000_00000 = .srcAcc1 21 .m ∧ decode 0b0000010101_01001_00000 = .srcAccZ 21 .m ∧
    decode 0b0000010101_01010_00000 = .srcAccNZ 21 .m ∧ decode 0b0000010101_01011_00000 = .srcMul 21 .m ∧
    decode 0b0000010101_01100_00000 = .srcMulS 21 .m ∧ decode 0b0000010101_01101_00000 = .srcMulR 21 .m ∧
    decode 0b0000010101_01110_00000 = .srcAux 21 .m ∧ decode 0b0000010101_01111_00000 = .srcAuxS 21 .m := by decide

theorem test_decode_source_rows_16_31 :
    decode 0b0000010101_10000_00000 = .srcAuxR 21 .m ∧ decode 0b0000010101_10001_00000 = .srcG 21 .m ∧
    decode 0b0000010101_10010_00000 = .srcGS 21 .m ∧ decode 0b0000010101_10011_00000 = .srcGR 21 .m ∧
    decode 0b0000010101_10100_00000 = .srcZero 21 .m ∧ decode 0b0000010101_10101_00000 = .srcHalf 21 .m ∧
    decode 0b0000010101_10110_00000 = .srcHalfU 21 .m ∧ decode 0b0000010101_10111_00000 = .srcSeq 21 .m ∧
    decode 0b0000010101_11000_00000 = .srcP11 21 .m ∧ decode 0b0000010101_11001_00000 = .srcOne 21 .m ∧
    decode 0b0000010101_11010_00000 = .srcLit 21 .m ∧ decode 0b0000010101_11011_00000 = .srcX1 21 .m ∧
    decode 0b0000010101_11100_00000 = .srcX2 21 .m ∧ decode 0b0000010101_11101_00000 = .srcX3 21 .m ∧
    decode 0b0000010101_11110_00000 = .srcX4 21 .m ∧ decode 0b0000010101_11111_00000 = .srcP20 21 .m := by decide

theorem test_decode_destination_rows_0_15 :
    decodeAs .destination 0b0000010101_11001_00000 = .dstM 21 .one ∧ decode 0b0000010101_11001_00001 = .dstNul1 21 .one ∧
    decode 0b0000010101_11001_00010 = .dstPrint 21 .one ∧ decode 0b0000010101_11001_00011 = .dstPunch 21 .one ∧
    decode 0b0000010101_11001_00100 = .dstAcc 21 .one ∧ decode 0b0000010101_11001_00101 = .dstAdd 21 .one ∧
    decode 0b0000010101_11001_00110 = .dstSub 21 .one ∧ decode 0b0000010101_11001_00111 = .dstAnd 21 .one ∧
    decode 0b0000010101_11001_01000 = .dstOr 21 .one ∧ decode 0b0000010101_11001_01001 = .dstXor 21 .one ∧
    decode 0b0000010101_11001_01010 = .dstSpeak 21 .one ∧ decode 0b0000010101_11001_01011 = .dstMul 21 .one ∧
    decode 0b0000010101_11001_01100 = .dstMpy 21 .one ∧ decode 0b0000010101_11001_01101 = .dstShl 21 .one ∧
    decode 0b0000010101_11001_01110 = .dstAux 21 .one ∧ decode 0b0000010101_11001_01111 = .dstAuxAdd 21 .one := by
  decide

theorem test_decode_destination_rows_16_31 :
    decode 0b0000010101_11001_10000 = .dstAuxSub 21 .one ∧ decode 0b0000010101_11001_10001 = .dstG 21 .one ∧
    decode 0b0000010101_11001_10010 = .dstGAdd 21 .one ∧ decode 0b0000010101_11001_10011 = .dstGSub 21 .one ∧
    decode 0b0000010101_11001_10100 = .dstNul2 21 .one ∧ decode 0b0000010101_11001_10101 = .dstHalf 21 .one ∧
    decode 0b0000010101_11001_10110 = .dstHalfU 21 .one ∧ decode 0b0000010101_11001_10111 = .dstJmp 21 .one ∧
    decode 0b0000010101_11001_11000 = .dstJRel 21 .one ∧ decode 0b0000010101_11001_11001 = .dstSkip 21 .one ∧
    decode 0b0000010101_11001_11010 = .dstIMod 21 .one ∧ decode 0b0000010101_11001_11011 = .dstX1 21 .one ∧
    decode 0b0000010101_11001_11100 = .dstX2 21 .one ∧ decode 0b0000010101_11001_11101 = .dstX3 21 .one ∧
    decode 0b0000010101_11001_11110 = .dstX4 21 .one ∧ decode 0b0000010101_11001_11111 = .dstStop 21 .one := by decide

/-- Words of 95_test_vectors.md, hexadecimal as the spec prints them. -/
theorem test_decode_words_of_the_programs :
    decode 0x00165 = .dstAdd 0 .mul ∧ decode 0x00239 = .dstSkip 0 .g ∧ decode 0x01817 = .dstJmp 6 .m ∧
    decode 0x0063A = .dstIMod 1 .g ∧ decode 0x55755 = .dstHalf 341 .lit ∧ decode 0x03080 = .srcAcc 12 .m ∧
    decode 0x0357B = .dstX1 13 .mul ∧ decode 0x003ED = .dstShl 0 .p20 := by decide

theorem test_encode_words_of_the_programs :
    encode (.srcM 6 .jmp) = 0x01817 ∧ encode (.dstJmp 6 .m) = 0x01817 ∧ encode (.dstHalf 341 .lit) = 0x55755 ∧
    encode (.srcAcc 12 .m) = 0x03080 := by decide

/-- The host's table check: a row's own bits, the rest zero; a pattern wider than a word is rejected by name. -/
theorem test_decode_table_words :
    decodeTableWord 24 32 = some (.srcIn 0 .m) ∧ decodeTableWord 24 2 = some (.dstPrint 0 .m) ∧
    decodeTableWord 24 0 = some (.srcM 0 .m) ∧ decodeTableWord 8 0 = some (.dstM 0 .m) ∧
    decodeTableWord 24 0x100000 = none ∧ decodePattern (fun _ => .source) 0x100000 = .error (.notAWord 0x100000) := by
  decide

/-- V1 and V2 of 95_test_vectors.md. -/
theorem test_fields_and_signed_values :
    hi 0x01817 = 6 ∧ lo 0x01817 = 0x017 ∧ hi 0x80000 = 512 ∧ lo 0x55755 = 0x355 ∧
    sval 0 = 0 ∧ sval 0x7FFFF = 524287 ∧ sval 0xFFFFF = -1 ∧ sval 0x80000 = -524288 ∧ onesCount 0x0000B = 3 := by decide

/-! ## Sources: `[21] <SRC> ACC` from state E leaves the source's value in `Acc` (95_test_vectors.md 2.1) -/

/-- `Acc` after the source row of code `k` with destination 4. -/
def handed (s : State) (k : Nat) : Option Word := after (decodeAs .source (BitVec.ofNat 20 (21 * 1024 + k * 32 + 4))) s (·.acc)

theorem test_sources_0_10 : ([0, 1, 2, 3, 4, 5, 6, 7, 8, 9, 10].map (handed stateE)) =
    [0x11111, 0x12345, 0x0ABCD, 0xFEDCB, 0x80005, 0x80000, 0xC0002, 0x0000A, 0x00001, 0x80005, 0x00001].map some := by
  decide

theorem test_sources_11_19 : ([11, 12, 13, 14, 15, 16, 17, 18, 19].map (handed stateE)) =
    [0x80003, 0x00001, 0x40001, 0xC0006, 0x80000, 0x60003, 0x80009, 0x80000, 0x40004].map some := by decide

theorem test_sources_20_31 : ([20, 21, 22, 23, 24, 25, 26, 27, 28, 29, 30, 31].map (handed stateE)) =
    [0x00000, 0x002AB, 0xAAC00, 0x01400, 0x00400, 0x00001, 0x00015, 0x22221, 0x22222, 0x22223, 0x22224, 0x80000].map
      some := by decide

/-- The corner table of 2.1: sources 6, 7, 10, 12, 13, 16. -/
theorem test_source_corners :
    handed (regs 0xFFFFF 0 0) 6 = some 0xFFFFF ∧ handed (regs 0x80000 0 0) 6 = some 0xC0000 ∧
    handed (regs 0x40000 0 0) 7 = some 0x80000 ∧ handed (regs 0x80000 0 0) 7 = some 0 ∧
    handed (regs 0 0 0) 10 = some 0 ∧ handed (regs 0x80000 0 0) 10 = some 1 ∧
    handed (regs 0 0x7FFFF 0) 12 = some 0 ∧ handed (regs 0 0xFFFFF 0) 13 = some 0x7FFFF ∧
    handed (regs 0 0 0xFFFFF) 16 = some 0x7FFFF := by decide

/-- R95: source 9 clears `Acc`; R103: the index is the low four bits of the address field (1013 gives 5). -/
theorem test_accz_clears_and_g_index :
    after (.srcAccZ 21 .nul1) stateE (·.acc) = some 0 ∧ after (.srcG 1013 .mul) stateE (·.mul) = some 0x80009 := by decide

/-! ## Moves, ports and no-ops from state F (95_test_vectors.md 2.2) -/

theorem test_store_writes :
    after (decode 0x05720) stateF (·.main.read 21) = some 0x00001 ∧
    after (decode 0x057FB) stateF (·.x1.read 21) = some 0x80000 ∧
    after (decode 0x0573C) stateF (·.x2.read 21) = some 0x00001 ∧
    after (decode 0x0549D) stateF (·.x3.read 21) = some 0x00005 ∧
    after (decode 0x0557E) stateF (·.x4.read 21) = some 0x00003 := by decide

theorem test_register_writes :
    after (decode 0x05744) stateF (·.acc) = some 0x00015 ∧ after (decode 0x0008B) stateF (·.mul) = some 0x00005 ∧
    after (decode 0x003EE) stateF (·.aux) = some 0x80000 ∧ after (decode 0x05491) stateF (readG 5) = some 0x00005 ∧
    after (decode 0x05755) stateF (·.half) = some 0x015 ∧ after (decode 0x002F6) stateF (·.half) = some 0x005 := by decide

theorem test_half_loads :
    after (.dstHalf 0 .acc) (regs 0xABCDE 0 0) (·.half) = some 0x0DE ∧
    after (.dstHalfU 0 .acc) (regs 0xABCDE 0 0) (·.half) = some 0x2AF := by decide

theorem test_ports :
    after (decode 0x05742) stateF (·.output) = some [⟨.console, 0x00015⟩] ∧
    after (decode 0x00083) stateF (·.output) = some [⟨.punch, 0x00005⟩] ∧
    after (decode 0x0032A) stateF (·.output) = some [⟨.speaker, 0x00001⟩] := by decide

/-- R204: nothing on an unconnected port; R205: no next state on a port that does not take the word. -/
theorem test_unconnected_and_blocked_port :
    after (.dstSpeak 0 .one) (stateF.setPorts ⟨.takesAll, .takesAll, .unconnected⟩) (·.output) = some [] ∧
    after (.dstSpeak 0 .one) (stateF.setPorts ⟨.takesAll, .takesAll, .takes 0⟩) (·.output) = none := by decide

theorem test_no_ops :
    after (decode 0x05401) stateF (fun t => (t.setSeq 0x01400).setIr 0) = some stateF ∧
    after (decode 0x00294) stateF (·.seq) = some 0x01800 := by decide

/-! ## Arithmetic (95_test_vectors.md 2.3 to 2.5) -/

/-- `Acc` after a destination on the value in `Mul`. -/
def accOn (i : Addr → SrcOp → Instr) (acc v : Word) : Option Word := after (i 21 .mul) (regs acc v 0) (·.acc)

theorem test_acc_arithmetic :
    accOn .dstAdd 0x00005 0x0000C = some 0x00011 ∧ accOn .dstAdd 0x7FFFF 0x00001 = some 0x80000 ∧
    accOn .dstSub 0x00005 0x0000C = some 0xFFFF9 ∧ accOn .dstSub 0x00000 0x80000 = some 0x80000 ∧
    accOn .dstAnd 0x00005 0x0000C = some 0x00004 ∧ accOn .dstOr 0x00005 0x0000C = some 0x0000D ∧
    accOn .dstXor 0x00005 0x0000C = some 0x00009 ∧ accOn .dstXor 0x00005 0x80000 = some 0x80005 := by decide

theorem test_aux_and_g_arithmetic :
    after (.dstAuxAdd 0 .mul) (regs 0 1 0xFFFFF) (·.aux) = some 0 ∧
    after (.dstAuxSub 0 .mul) (regs 0 0x0000C 0x00005) (·.aux) = some 0xFFFF9 ∧
    after (.dstGAdd 21 .mul) (regs 0 0x0000C 0) (readG 5) = some 0x00015 ∧
    after (.dstGSub 21 .mul) (regs 0 0x0000A 0) (readG 5) = some 0xFFFFF := by decide

/-- `Acc` and `Mul` after destination 12 on the value in `Mul`. -/
def mpyOn (v aux acc : Word) : Option (Word × Word) := after (.dstMpy 0 .mul) (regs acc v aux) fun t => (t.acc, t.mul)

theorem test_multiply_signs :
    mpyOn 0x40000 0x40000 0 = some (0x20000, 0x00000) ∧ mpyOn 0xC0000 0x40000 0 = some (0xA0000, 0x00000) ∧
    mpyOn 0x80000 0x40000 0 = some (0x80000, 0x00000) ∧ mpyOn 0xFFFFF 0x7FFFF 0 = some (0xFFFFE, 0x00002) := by decide

theorem test_multiply_low_part_and_accumulate :
    mpyOn 0xFFFFF 0x40000 0 = some (0xBFFFF, 0x80000) ∧ mpyOn 0x00003 0x00005 0 = some (0x00000, 0x0001E) ∧
    mpyOn 0x40000 0x40000 0xF0000 = some (0x10000, 0x00000) ∧
    mpyOn 0x12345 0x6789A 0x11111 = some (0x1FCAB, 0xB1F04) := by decide

/-- `Acc` and `Mul` after destination 13 on the value in `Aux`. -/
def shlOn (v acc mul : Word) : Option (Word × Word) := after (.dstShl 0 .aux) (regs acc mul v) fun t => (t.acc, t.mul)

theorem test_combined_shift :
    shlOn 0x7FFFF 0x12345 0x6789A = some (0x12345, 0x6789A) ∧ shlOn 0x80000 0x12345 0x6789A = some (0x2468A, 0xCF134) ∧
    shlOn 0x80800 0x12345 0x6789A = some (0x48D15, 0x9E268) ∧ shlOn 0x87800 0x12345 0x6789A = some (0x56789, 0xA1234) ∧
    shlOn 0xFFFFF 0x12345 0x6789A = some (0x56789, 0xA1234) := by decide

/-- R223 and 2.7: source 9 clears `Acc` before the destination reads it. -/
theorem test_accz_before_destination :
    after (decode 0x05526) stateF (·.acc) = some 0xFFFFB ∧
    after (decode 0x0552C) stateF (fun t => (t.acc, t.mul)) = some (0x00002, 0x80000) ∧
    after (decode 0x0012D) (regs 0x80005 0x00003 0) (fun t => (t.acc, t.mul)) = some (0x00000, 0x00006) := by decide

/-! ## Control, executing at address 5 (95_test_vectors.md 2.6) -/

/-- `S` after a destination on the value in `Acc`. -/
def seqOn (i : Addr → SrcOp → Instr) (v : Word) : Option Word := after (i 0 .acc) (regs v 0 0) (·.seq)

theorem test_jumps :
    seqOn .dstJmp 0x02BFF = some 0x02BFF ∧ seqOn .dstJRel 0x00400 = some 0x01C00 ∧ seqOn .dstJRel 0xFF800 = some 0x01000 ∧
    after (decode 0x002F7) stateF (·.seq) = some 0x01400 ∧ after (decode 0x002F8) stateF (·.seq) = some 0x02C00 := by decide

theorem test_skip_ranges :
    [0x00000, 0x007FF, 0x00400, 0x00800, 0x03800, 0x03FFF, 0x04000, 0x80000, 0x80001, 0xFF800, 0xFF801].map
      (seqOn .dstSkip) =
    [0x01800, 0x01C00, 0x01C00, 0x01800, 0x01800, 0x01C00, 0x01C00, 0x01C00, 0x02000, 0x01C00, 0x02000].map some := by
  decide

theorem test_instruction_modify :
    after (decode 0x0033A) stateF (fun t => (t.ir, t.main.read 6)) = some (0x05405, 0x05005) ∧
    after (.dstIMod 0 .acc) (regs 0xFFFFF 0 0) (·.ir) = some 0x04C05 ∧
    after (.dstIMod 0 .p11) stateF (·.ir) = some 0x05005 := by decide

theorem test_stop :
    after (decode 0x0033F) stateF (fun t => (t.run, t.seq)) = some (.stopped, 0x01800) ∧
    after (decode 0x0029F) stateF (·.run) = some .running ∧ after (decode 0x003FF) stateF (·.run) = some .stopped := by
  decide

/-! ## The step, reset and hazards (95_test_vectors.md 2.7) -/

theorem test_reset_step : stepped (launch [.load .main 0 0x54321, .load .main 1 0x0033F])
    (fun t => (t.seq, t.ir, t.main.read 0)) = some (0x00400, 0x0033F, 0x54321) := by decide

theorem test_entry_at_address_10 : stepped (launch (.load .main 10 0x0033F :: enterBefore 10))
    (fun t => (t.seq, t.ir)) = some (0x02800, 0x0033F) := by decide

theorem test_wrap_at_the_top : stepped (launch [.load .main 0 0x0033F, .setSeq 0xFFC00, .setIr 0x00294])
    (fun t => (t.seq, t.ir)) = some (0x00000, 0x0033F) := by decide

theorem test_store_into_next_word_runs_the_old_one :
    stepped (launch [.setSeq 0x01400, .setIr 0x01880, .setAcc 0x0033F, .load .main 6 0x00294])
      (fun t => (t.main.read 6, t.ir)) = some (0x0033F, 0x00294) := by decide

theorem test_host_sets_inputs_between_steps :
    stepped (launch [.setSchedule (.given ⟨1, 2, 3⟩ .keep)]) (fun t => (t.inp, t.swA, t.swB, t.schedule)) =
      some (1, 2, 3, .keep) := by decide

/-- A schedule without an end: during step `k` the registers hold `k`, `2 * k`, `3 * k` (D6). -/
def countingInputs (k : Nat) : HostInputs := ⟨.ofNat 20 k, .ofNat 20 (2 * k), .ofNat 20 (3 * k)⟩

theorem test_endless_schedule_gives_each_step_its_inputs :
    (trace countingInputs [true, true, true] (startSchedule countingInputs State.reset)).map (fun t => (t.inp, t.swA, t.swB)) =
      [(0, 0, 0), (1, 2, 3), (2, 4, 6), (3, 6, 9)] := by decide

theorem test_fetch_word_is_run : stepped (State.reset.withFetchWord 24 0x05744) (·.acc) = some 0x00015 := by decide

/-! ## The invariant of the stores -/

theorem test_write_keeps_canonical_form :
    Memory.write (Memory.write [(3, 7)] 1 5) 3 0 = [(1, 5)] ∧ Memory.wf [(3, 7), (1, 5)] = false ∧
    Memory.wf [(1024, 1)] = false ∧ Memory.wf [(3, 0)] = false := by decide

/-! ## Witnesses: for each statement with hypotheses, values that meet all of them -/

/-- A machine that has stopped. -/
def halted : State := State.reset.setRun .stopped

/-- A machine whose console does not take the word it is about to print. -/
def blocked : State := (State.reset.setPorts ⟨.takes 0, .unconnected, .takes 1⟩).setIr 0x00322

theorem witness_BothReadingsOfAWordMeanTheSame :
    encode (.srcIn 21 .add) = encode (.dstAdd 21 .inp) ∧ Instr.srcIn 21 .add ≠ .dstAdd 21 .inp := by decide

theorem witness_DecodeAndEncodeAgree :
    (Instr.dstSkip 1023 .g).wellFormed = true ∧ (Instr.srcX4 1023 .m).wellFormed = true := by decide

theorem witness_StepRunsTheDecodedInstruction :
    State.reset.run = .running ∧ decode State.reset.ir = .srcM 0 .m ∧
    after (.srcM 0 .m) State.reset (·.schedule) = some .keep ∧
    after (.srcM 0 .m) (State.reset.setSchedule (.given ⟨1, 2, 3⟩ .keep)) (fun t => (t.run, t.schedule)) =
      some (.running, .given ⟨1, 2, 3⟩ .keep) ∧
    after (.srcM 0 .m) (State.reset.setSchedule (.parameter 1)) (fun t => (t.run, t.schedule)) =
      some (.running, .parameter 1) ∧
    after (.dstStop 0 .one) (State.reset.setSchedule (.parameter 1)) (·.run) = some .stopped ∧
    blocked.run = .running ∧ decode blocked.ir = .dstPrint 0 .one := by decide

theorem witness_StepRunsTheDecodedInstruction_fault : exec (.dstPrint 0 .one) blocked = .fault (.portBlocked .console) :=
  rfl

theorem witness_EveryInstructionCompletesUnlessItsPortBlocks :
    portReady .print State.reset = true ∧ portReady .speak blocked = true ∧ portReady .punch blocked = true ∧
    portOf .print = some .console ∧ blocked.ports.get .console = .takes 0 := by decide

theorem witness_StoppedMachineTakesNoStep : halted.run = .stopped := rfl

theorem witness_OnlyABlockedPortStopsAnInstruction :
    exec (.dstPrint 0 .one) blocked = .fault (.portBlocked .console) := rfl

theorem witness_RunningMachineWithWillingPortsAlwaysSteps :
    State.reset.run = .running ∧ neverBlocks State.reset = true := by decide

/-- The hypothesis of the source rows' statements, with a destination that has no port, one whose port takes the
word, one whose port is not connected. -/
theorem witness_source_rows_HandOver :
    portReady .mpy blocked = true ∧ portReady .speak blocked = true ∧ portReady .punch blocked = true := by decide

theorem witness_GeneralRegisterSourcesHandOver :
    portReady .acc State.reset = true ∧ (1023 : Addr).toNat % 16 = (15 : Fin 16).val ∧
    (16 : Addr).toNat % 16 = (0 : Fin 16).val := by decide

theorem witness_PortDestinationsEmitOneEvent :
    blocked.ports.get .punch = .unconnected ∧ blocked.ports.get .console = .takes 0 ∧
    Takes (blocked.ports.get .speaker) (.takes 0) ∧ Takes (State.reset.ports.get .console) .takesAll :=
  ⟨rfl, rfl, .inr ⟨0, rfl, rfl⟩, .inl ⟨rfl, rfl⟩⟩

theorem witness_GeneralRegisterAddAndSubtractWrap : (21 : Addr).toNat % 16 = (5 : Fin 16).val := by decide

theorem witness_MultiplyFromZeroHoldsTheWholeProduct :
    accAfter .aux State.reset = 0 ∧ accAfter .accz stateE = 0 ∧ stateE.acc ≠ 0 := by decide

theorem witness_CombinedShiftRotatesAccMul :
    (operand .lit 1023 stateE).toNat < 2 ^ 19 ∧ (operand .acc 0 (regs 0x7FFFF 0 0)).toNat < 2 ^ 19 ∧
    2 ^ 19 ≤ (operand .p20 0 stateE).toNat ∧ 2 ^ 19 ≤ (operand .acc 0 (regs 0xFFFFF 0 0)).toNat := by decide

/-- Instructions that complete, for the whole-machine rules: one that is outside every list of `EachRegister…`, a
jump, an instruction modify, a stop, a store, an emission. -/
theorem witness_exec_answers_next :
    (∃ t, exec (.dstNul1 21 .one) stateE = .next t) ∧ (∃ t, exec (.dstJmp 21 .one) stateE = .next t) ∧
    (∃ t, exec (.dstIMod 21 .one) stateE = .next t) ∧ (∃ t, exec (.dstStop 21 .one) stateE = .next t) ∧
    (∃ t, exec (.dstM 21 .one) stateE = .next t) ∧ (∃ t, exec (.dstPrint 21 .one) stateE = .next t) ∧
    (∃ t, exec (.dstG 21 .one) stateE = .next t) :=
  ⟨⟨_, rfl⟩, ⟨_, rfl⟩, ⟨_, rfl⟩, ⟨_, rfl⟩, ⟨_, rfl⟩, ⟨_, rfl⟩, ⟨_, rfl⟩⟩

theorem witness_EachRegisterIsWrittenOnlyByItsOperations :
    (∃ t, exec (.dstG 21 .one) stateE = .next t) ∧ (Instr.dstG 21 .one).srcOp ≠ .accz ∧
    (Instr.dstG 21 .one).dstOp ∉ [DstOp.acc, .add, .sub, .and, .or, .xor, .mpy, .shl] ∧
    (Instr.dstG 21 .one).dstOp ∉ [DstOp.mul, .mpy, .shl] ∧ (Instr.dstG 21 .one).dstOp ∉ [DstOp.aux, .auxadd, .auxsub] ∧
    (Instr.dstG 21 .one).dstOp ∉ [DstOp.half, .halfu] ∧ (4 : Fin 16).val ≠ (Instr.dstG 21 .one).addr.toNat % 16 ∧
    (Instr.dstNul1 21 .one).dstOp ∉ [DstOp.g, .gadd, .gsub] :=
  ⟨⟨_, rfl⟩, by decide, by decide, by decide, by decide, by decide, by decide, by decide⟩

theorem witness_SequenceAndStagedInstructionAfterAStep :
    (∃ t, exec (.dstM 21 .one) stateE = .next t) ∧ (Instr.dstM 21 .one).dstOp ∉ [DstOp.jmp, .jrel, .skip] ∧
    (Instr.dstM 21 .one).dstOp ≠ .imod ∧ (∃ t, exec (.dstSkip 21 .one) stateE = .next t) ∧
    (Instr.dstSkip 21 .one).dstOp ≠ .imod :=
  ⟨⟨_, rfl⟩, by decide, by decide, ⟨_, rfl⟩, by decide⟩

theorem witness_StoreIntoTheNextWordIsNotSeenByTheStagedInstruction :
    (6 : Addr).toNat = (stateE.seq + 0x00400).toNat / 2 ^ 10 ∧
    (0 : Addr).toNat = ((stateE.setSeq 0xFFC00).seq + 0x00400).toNat / 2 ^ 10 := by decide

theorem witness_OnlyTheAddressedCellOfTheDestinationStoreChanges :
    (∃ t, exec (.dstX1 21 .one) stateE = .next t) ∧ (Instr.dstX1 21 .one).dstOp ≠ .m ∧
    (20 : Nat) ≠ (Instr.dstX1 21 .one).addr.toNat :=
  ⟨⟨_, rfl⟩, by decide, by decide⟩

theorem witness_UnconnectedPortsChangeOnlyTheOutput :
    stepped (State.reset.setIr 0x00322) (·.output) = some [⟨.console, 1⟩] := by decide

theorem witness_RunModeNeverChangesAStep :
    (∃ t, step State.reset = .next t) ∧ step halted = .fault .stopped := ⟨⟨_, rfl⟩, rfl⟩

theorem witness_PacedModeTakesOneStepPerTick :
    State.reset.runMode = .free ∧ (State.reset.setRunMode .paced).runMode = .paced := ⟨rfl, rfl⟩

theorem witness_AuxiliaryStoresReachNothingButTheirSources :
    (Instr.dstX1 21 .one).srcOp ∉ [SrcOp.x1, .x2, .x3, .x4] ∧ (∃ t, exec (.dstX1 21 .one) stateE = .next t) :=
  ⟨by decide, ⟨_, rfl⟩⟩

theorem witness_EveryStepKeepsTheStoresCanonical :
    (stateE.setIr 0x05720).wf = true ∧ stepped (stateE.setIr 0x05720) (·.main) = some [(21, 0x00001)] := by decide

theorem witness_CanonicalStoresThatReadAlikeAreEqual : Memory.wf [(0, 1), (1023, 2)] = true := by decide

theorem witness_LaunchLoadsTheStores :
    (∀ v, LaunchAction.load .main 5 v ∉ [LaunchAction.load .main 6 1, .load .x1 5 2]) ∧
    (∀ v, LaunchAction.load .main 5 v ∉ ([] : List LaunchAction)) := by
  constructor <;> intro v <;> simp

theorem witness_FirstStepAfterResetOnlyFetches :
    State.reset.run = .running ∧ State.reset.seq = 0x00000 ∧ State.reset.ir = 0x00000 ∧ State.reset.wf = true ∧
    State.reset.schedule = .keep := by decide

theorem witness_EnteringAtAnAddress : stateE.run = .running := by decide

theorem witness_ScheduledInputsHoldDuringEveryStep :
    (trace countingInputs [true, false, true] (startSchedule countingInputs (State.reset.setRunMode .paced)))[3]?.map
      (fun t => (t.run, t.inp)) = some (.running, 2) := by decide

theorem witness_TraceShowsTheRunAndChangesNothing :
    (trace countingInputs [true, true] State.reset).length = 3 ∧
    (runOver countingInputs [true, true] State.reset).ending = .notWithinBound ∧
    (runOver countingInputs [true, true] State.reset).final.run = .running := by decide

theorem witness_StoppedRunIsFinal :
    (runOver countingInputs [true, true] (launch [.load .main 1 0x0033F])).ending = .stoppedNormally ∧
    (runOver countingInputs [true] (launch [.load .main 1 0x0033F])).ending = .notWithinBound := by decide

theorem witness_AbandonedAndStuckRuns :
    (runOver countingInputs [true] (State.reset.setRunMode .paced)).ending = .abandoned ∧
    (runOver countingInputs [true] blocked).ending = .stuck .console := by decide

end Sys2Proof.Tests
end

section
/-! SUPPORT. What an instruction and a moment of a run leave unchanged on the host's side of the machine (the input
registers, the ports, the schedule, the run mode and the output; R7, R34, R39, R42), and the two statements about it. -/

set_option autoImplicit false

open Sys2Proof Sys2Proof.Machine Sys2Proof.Spec

namespace Sys2Proof.Machine

/-! ## The host's side of the state -/

/-- What stands on the host's side of the state: the registers the host sets (R34), the launch inputs (R7) and the
output history (R204). -/
structure HostSide where
  inputs : HostInputs
  ports : Ports
  schedule : InputSchedule
  runMode : RunMode
  output : List PortEvent

namespace State

/-- `In`, `SwA` and `SwB` together. -/
def inputs (s : State) : HostInputs := ⟨s.inp, s.swA, s.swB⟩

/-- The host's side of a state. -/
def hostSide (s : State) : HostSide := ⟨s.inputs, s.ports, s.schedule, s.runMode, s.output⟩

@[simp] theorem inputs_setInputs (s : State) (i : HostInputs) : (s.setInputs i).inputs = i := rfl
@[simp] theorem inputs_setSchedule (s : State) (l : InputSchedule) : (s.setSchedule l).inputs = s.inputs := rfl

@[simp] theorem hostSide_setAcc (s : State) (v : Word) : (s.setAcc v).hostSide = s.hostSide := rfl
@[simp] theorem hostSide_setMul (s : State) (v : Word) : (s.setMul v).hostSide = s.hostSide := rfl
@[simp] theorem hostSide_setAux (s : State) (v : Word) : (s.setAux v).hostSide = s.hostSide := rfl
@[simp] theorem hostSide_setHalf (s : State) (v : HalfWord) : (s.setHalf v).hostSide = s.hostSide := rfl
@[simp] theorem hostSide_setGs (s : State) (v : Vector Word 16) : (s.setGs v).hostSide = s.hostSide := rfl
@[simp] theorem hostSide_setSeq (s : State) (v : Word) : (s.setSeq v).hostSide = s.hostSide := rfl
@[simp] theorem hostSide_setIr (s : State) (v : Word) : (s.setIr v).hostSide = s.hostSide := rfl
@[simp] theorem hostSide_setRun (s : State) (r : RunState) : (s.setRun r).hostSide = s.hostSide := rfl
@[simp] theorem hostSide_setStore (s : State) (k : StoreId) (m : Memory) : (s.setStore k m).hostSide = s.hostSide := by
  cases k <;> rfl

end State

@[simp] theorem hostSide_memWrite (k : StoreId) (a : Addr) (v : Word) (s : State) :
    (memWrite k a v s).hostSide = s.hostSide := State.hostSide_setStore s k _

@[simp] theorem hostSide_writeG (g : GIndex) (v : Word) (s : State) : (writeG g v s).hostSide = s.hostSide := rfl

@[simp] theorem hostSide_advance (s : State) : (advance s).hostSide = s.hostSide := by
  rw [advance_eq, State.hostSide_setSeq]

@[simp] theorem hostSide_advanceIf (c : Bool) (s : State) : (advanceIf c s).hostSide = s.hostSide := by
  rw [advanceIf_eq, State.hostSide_setSeq]

@[simp] theorem hostSide_fetch (s : State) : (fetch s).hostSide = s.hostSide := rfl

@[simp] theorem hostSide_signalStop (s : State) : (signalStop s).hostSide = s.hostSide := rfl

@[simp] theorem hostSide_readSource (r : SrcOp) (a : Addr) (s : State) :
    (readSource r a s).2.hostSide = s.hostSide := by
  rw [readSource_state]
  split <;> simp

/-! ## What a destination operation and an instruction do to it -/

/-- Destinations 2, 3 and 10 are emissions on their port (R128, R129, R131). -/
theorem writeDest_of_portOf_some {d : DstOp} {p : Port} (h : portOf d = some p) (a : Addr) (v : Word) (s : State) :
    writeDest d a v s = emit p v s := by
  cases d <;> cases h <;> rfl

/-- Every other destination gives a next state and leaves the host's side alone. -/
theorem writeDest_of_portOf_none {d : DstOp} (h : portOf d = none) (a : Addr) (v : Word) (s : State) :
    ∃ t, writeDest d a v s = .next t ∧ t.hostSide = s.hostSide := by
  cases d with
  | print | punch | speak => cases h
  | shl | stop => exact ⟨_, rfl, by split <;> simp⟩
  | _ => exact ⟨_, rfl, by simp⟩

/-- An instruction that gives a next state leaves the host's side alone, or it is an emission in a state whose host's
side is that of the start. -/
theorem exec_hostSide {i : Instr} {s t : State} (h : exec i s = .next t) :
    t.hostSide = s.hostSide ∨
    ∃ p u, portOf i.dstOp = some p ∧ u.hostSide = s.hostSide ∧ emit p (operand i.srcOp i.addr s) u = .next t := by
  rw [exec_eq_runInstr, runInstr_eq] at h
  rcases hp : portOf i.dstOp with _ | p
  · obtain ⟨t', ht', hside⟩ := writeDest_of_portOf_none hp i.addr (readSource i.srcOp i.addr s).1
      (fetch (advance (readSource i.srcOp i.addr s).2))
    cases ht'.symm.trans h
    exact .inl (by simpa using hside)
  · rw [writeDest_of_portOf_some hp] at h
    exact .inr ⟨p, _, rfl, by simp, h⟩

/-! ## The launch parameters -/

/-- Two states agree on what the host fixed at launch and on the inputs it gives: which ports are connected, the run
mode, the schedule and the input registers. -/
structure SameLaunchParameters (s t : State) : Prop where
  connected : ∀ p, t.ports.get p = .unconnected ↔ s.ports.get p = .unconnected
  runMode : t.runMode = s.runMode
  schedule : t.schedule = s.schedule
  inputs : t.inputs = s.inputs

theorem SameLaunchParameters.of_hostSide {s t : State} (h : t.hostSide = s.hostSide) : SameLaunchParameters s t := by
  obtain ⟨hinputs, hports, hschedule, hmode, -⟩ := HostSide.mk.inj h
  exact ⟨fun p => by rw [hports], hmode, hschedule, hinputs⟩

theorem SameLaunchParameters.trans {s t u : State} (h : SameLaunchParameters s t) (k : SameLaunchParameters t u) :
    SameLaunchParameters s u :=
  ⟨fun p => (k.connected p).trans (h.connected p), k.runMode.trans h.runMode, k.schedule.trans h.schedule,
    k.inputs.trans h.inputs⟩

/-- An emission may use up one word of what a port takes, but the port stays connected (R204, R205). -/
theorem emit_sameLaunchParameters {p : Port} {v : Word} {s t : State} (h : emit p v s = .next t) :
    SameLaunchParameters s t := by
  rcases emit_cases p v s with ⟨-, he⟩ | ⟨-, he⟩ | ⟨-, he⟩ | ⟨n, hp, he⟩ <;> cases he.symm.trans h
  · exact .of_hostSide rfl
  · exact ⟨fun _ => Iff.rfl, rfl, rfl, rfl⟩
  · refine ⟨fun q => ?_, rfl, rfl, rfl⟩
    by_cases hq : q = p
    · simp [hq, hp]
    · simp [hq, record]

/-- No instruction changes what the host fixed at launch, or the inputs (R7, R34, R39). -/
theorem exec_sameLaunchParameters {i : Instr} {s t : State} (h : exec i s = .next t) : SameLaunchParameters s t := by
  rcases exec_hostSide h with hside | ⟨_, _, -, hside, hemit⟩
  · exact .of_hostSide hside
  · exact (SameLaunchParameters.of_hostSide hside).trans (emit_sameLaunchParameters hemit)

/-- Settles O44: apart from the emissions no operation touches the host's side, and an emission leaves a connected
port connected. -/
theorem noInstructionChangesTheLaunchParameters : Obligations.NoInstructionChangesTheLaunchParameters := by
  intro i s t h
  obtain ⟨hconnected, hmode, hschedule, -⟩ := exec_sameLaunchParameters h
  exact ⟨hconnected, hmode, hschedule⟩

/-! ## The inputs under a schedule -/

/-- While the machine is running, it holds the inputs `f n` of step number `n`, and its schedule goes on with step
`n + 1` (D6). -/
def BeforeStep (f : Nat → HostInputs) (n : Nat) (s : State) : Prop :=
  s.run = .running → s.inputs = f n ∧ s.schedule = .parameter (n + 1)

theorem beforeStep_startSchedule (f : Nat → HostInputs) (s : State) : BeforeStep f 0 (startSchedule f s) :=
  fun _ => ⟨rfl, rfl⟩

/-- Between two steps the host gives a running machine the inputs of the next one (R42). -/
theorem beforeStep_hostBetweenSteps {f : Nat → HostInputs} {n : Nat} {s : State} (h : s.schedule = .parameter n) :
    BeforeStep f n (hostBetweenSteps f s) := by
  intro hrun
  rcases hostBetweenSteps_cases f s with ⟨-, ⟨_, _, hl, -⟩ | ⟨k, hk, he⟩⟩ | ⟨hs | hs, he⟩
  · cases h.symm.trans hl
  · cases h.symm.trans hk
    simp [he]
  · rw [he, hs] at hrun
    cases hrun
  · cases h.symm.trans hs

@[simp] theorem hostBetweenSteps_runMode (f : Nat → HostInputs) (s : State) :
    (hostBetweenSteps f s).runMode = s.runMode := by
  obtain ⟨i, l, h⟩ := hostBetweenSteps_eq f s
  simp [h]

/-- A step that gives a next state is an instruction of a running machine, and then the host's turn. -/
theorem stepWith_next {f : Nat → HostInputs} {s t : State} (h : stepWith f s = .next t) :
    s.run = .running ∧ ∃ u, exec (decode s.ir) s = .next u ∧ t = hostBetweenSteps f u := by
  rcases stepWith_cases f s with ⟨-, hs⟩ | ⟨hrun, ⟨u, hu, hs⟩ | ⟨_, -, hs⟩ | ⟨_, -, hs⟩⟩ <;> cases hs.symm.trans h
  exact ⟨hrun, u, hu, rfl⟩

/-- A step keeps the run mode and brings the machine before the next step of the schedule. -/
theorem stepWith_beforeStep {f : Nat → HostInputs} {n : Nat} {s t : State} (h : stepWith f s = .next t)
    (hs : BeforeStep f n s) : t.runMode = s.runMode ∧ BeforeStep f (n + 1) t := by
  obtain ⟨hrun, u, hu, rfl⟩ := stepWith_next h
  obtain ⟨-, hmode, hschedule, -⟩ := exec_sameLaunchParameters hu
  exact ⟨by simp [hmode], beforeStep_hostBetweenSteps (hschedule.trans (hs hrun).2)⟩

@[simp] theorem stepsOver_nil (m : RunMode) : stepsOver m [] = 0 := by
  cases m <;> rfl

theorem stepsOver_cons (m : RunMode) (tick : Bool) (ts : List Bool) :
    stepsOver m (tick :: ts) = stepsOver m [tick] + stepsOver m ts := by
  cases m <;> cases tick <;> simp [stepsOver, Nat.add_comm]

/-- A moment that gives a next state is one step, or the wait of a paced machine, which is none (R187). -/
theorem clock_next {f : Nat → HostInputs} {tick : Bool} {s t : State} (h : clock f tick s = .next t) :
    (stepsOver s.runMode [tick] = 1 ∧ stepWith f s = .next t) ∨ (stepsOver s.runMode [tick] = 0 ∧ t = s) := by
  unfold clock at h
  cases hm : s.runMode <;> rw [hm] at h
  case free => exact .inl ⟨rfl, h⟩
  case paced =>
    cases tick with
    | true => exact .inl ⟨rfl, h⟩
    | false => cases h; exact .inr ⟨rfl, rfl⟩

/-- A moment keeps the run mode, and the schedule goes on by the steps it takes. -/
theorem clock_beforeStep {f : Nat → HostInputs} {n : Nat} {tick : Bool} {s t : State} (h : clock f tick s = .next t)
    (hs : BeforeStep f n s) : t.runMode = s.runMode ∧ BeforeStep f (n + stepsOver s.runMode [tick]) t := by
  rcases clock_next h with ⟨hone, hstep⟩ | ⟨hzero, rfl⟩
  · rw [hone]
    exact stepWith_beforeStep hstep hs
  · rw [hzero]
    exact ⟨rfl, hs⟩

/-! ## The trace -/

theorem trace_zero (f : Nat → HostInputs) (ts : List Bool) (s : State) : (trace f ts s)[0]? = some s := by
  cases ts with
  | nil => rfl
  | cons tick ts =>
    unfold trace
    split <;> rfl

/-- An entry of the trace after the first is an entry of the trace from the state after the first moment. -/
theorem trace_succ {f : Nat → HostInputs} {ts : List Bool} {s u : State} {k : Nat}
    (h : (trace f ts s)[k + 1]? = some u) :
    ∃ tick rest t, ts = tick :: rest ∧ clock f tick s = .next t ∧ (trace f rest t)[k]? = some u := by
  cases ts with
  | nil => simp [trace] at h
  | cons tick rest =>
    unfold trace at h
    split at h
    case h_1 t ht => exact ⟨tick, rest, t, rfl, ht, by simpa using h⟩
    all_goals simp at h

/-- Every entry of the trace stands before the step whose number is the number of steps taken up to it. -/
theorem trace_beforeStep {f : Nat → HostInputs} {k n : Nat} {ts : List Bool} {s u : State} (hs : BeforeStep f n s)
    (h : (trace f ts s)[k]? = some u) : BeforeStep f (n + stepsOver s.runMode (ts.take k)) u := by
  induction k generalizing n ts s with
  | zero =>
    cases (trace_zero f ts s).symm.trans h
    simpa using hs
  | succ k ih =>
    obtain ⟨tick, rest, t, rfl, hclock, hrest⟩ := trace_succ h
    obtain ⟨hmode, ht⟩ := clock_beforeStep hclock hs
    have hu := ih ht hrest
    rwa [hmode, Nat.add_assoc, ← stepsOver_cons] at hu

/-- Settles O60: every entry of the trace keeps the invariant `BeforeStep`, which `startSchedule` sets up for step 0. -/
theorem scheduledInputsHoldDuringEveryStep : Obligations.ScheduledInputsHoldDuringEveryStep := by
  intro f ts s u k hu hrun
  obtain ⟨hinputs, -⟩ := trace_beforeStep (beforeStep_startSchedule f s) hu hrun
  rw [Nat.zero_add] at hinputs
  exact HostInputs.mk.inj hinputs

end Sys2Proof.Machine
end

section
/-! SUPPORT. What an instruction, a step, a launch action and a moment of a run do to the state: the destination
operations by the part of the state each of them writes, the canonical form of the stores, the launch and the trace, and
the statements about them. -/

set_option autoImplicit false

open Sys2Proof Sys2Proof.Machine Sys2Proof.Spec

namespace Sys2Proof.Machine

/-! ## The fields of a word, as numbers -/

theorem hi_toNat (w : Word) : (hi w).toNat = w.toNat / 1024 := by
  have := w.isLt
  simp only [hi, BitVec.extractLsb'_toNat, Nat.shiftRight_eq_div_pow]
  omega

theorem lo_toNat (w : Word) : (lo w).toNat = w.toNat % 1024 := by
  simp [lo]

theorem gIndex_toNat (a : Addr) : (gIndex a).toNat = a.toNat % 16 := by
  simp [gIndex]

/-- Settles O39: one unit is 1024, so it counts `Hi(S)` up by one and leaves the ten bits below alone. -/
theorem advanceWrapsAtTheTopOfTheStore : Obligations.AdvanceWrapsAtTheTopOfTheStore := by
  intro s
  have hseq : (advance s).seq.toNat = (s.seq.toNat + 1024) % 1048576 := BitVec.toNat_add s.seq unit
  refine ⟨?_, BitVec.eq_of_toNat_eq ?_⟩
  · rw [hi_toNat, hi_toNat, hseq]
    omega
  · rw [lo_toNat, lo_toNat, hseq]
    omega

/-! ## An instruction is its destination operation in the state `seenBy` -/

theorem seenBy_storeOf (r : SrcOp) (s : State) : (seenBy r s).storeOf = s.storeOf := by
  funext k
  cases k <;> rfl

theorem accAfter_of_ne {r : SrcOp} (h : r ≠ .accz) (s : State) : accAfter r s = s.acc := if_neg h

/-- The source operation, the advance of `S` and the default fetch together (R142, R181). -/
theorem fetch_advance_readSource (r : SrcOp) (a : Addr) (s : State) :
    fetch (advance (readSource r a s).2) = seenBy r s := by
  rw [readSource_state, advance_eq, fetch_setSeq, hi_toNat, seenBy, accAfter]
  split <;> simp only [fetched, State.setAcc, State.setSeq, State.setIr]

theorem exec_eq_writeDest (i : Instr) (s : State) :
    exec i s = writeDest i.dstOp i.addr (operand i.srcOp i.addr s) (seenBy i.srcOp s) := by
  rw [exec_eq_runInstr, runInstr_eq, fetch_advance_readSource, operand]

/-! ## What a destination operation can do -/

/-- `DestEffect a v s d t`: destination `d`, given the address field `a`, the value `v` and the state `s`, may leave the
state `t` (R126 to R175).  One constructor for each part of the state that a destination can write. -/
inductive DestEffect (a : Addr) (v : Word) (s : State) : DstOp → State → Prop where
  | unchanged (d : DstOp) : DestEffect a v s d s
  | acc {d : DstOp} (hd : d ∈ [.acc, .add, .sub, .and, .or, .xor]) (w : Word) : DestEffect a v s d (s.setAcc w)
  | accMul {d : DstOp} (hd : d ∈ [.mpy, .shl]) (w x : Word) : DestEffect a v s d ((s.setAcc w).setMul x)
  | mul : DestEffect a v s .mul (s.setMul v)
  | aux {d : DstOp} (hd : d ∈ [.aux, .auxadd, .auxsub]) (w : Word) : DestEffect a v s d (s.setAux w)
  | half {d : DstOp} (hd : d ∈ [.half, .halfu]) (w : HalfWord) : DestEffect a v s d (s.setHalf w)
  | general {d : DstOp} (hd : d ∈ [.g, .gadd, .gsub]) (w : Word) : DestEffect a v s d (writeG (gIndex a) w s)
  | jump {d : DstOp} (hd : d ∈ [.jmp, .jrel, .skip]) (q : Word) : DestEffect a v s d (fetch (s.setSeq q))
  | staged (w : Word) : DestEffect a v s .imod (s.setIr w)
  | store {d : DstOp} (hd : d ∈ [.m, .x1, .x2, .x3, .x4]) (k : StoreId) : DestEffect a v s d (memWrite k a v s)
  | port {d : DstOp} (hd : d ∈ [.print, .punch, .speak]) (l : List PortEvent) (p : Ports) :
      DestEffect a v s d ((s.setOutput l).setPorts p)
  | stop (hv : v ≠ 0) : DestEffect a v s .stop (s.setRun .stopped)

/-- An emission writes the output history and the ports, or nothing (R204). -/
theorem emit_effect {p : Port} {a : Addr} {v : Word} {s t : State} {d : DstOp} (hd : d ∈ [.print, .punch, .speak])
    (h : emit p v s = .next t) : DestEffect a v s d t := by
  rcases emit_cases p v s with ⟨-, he⟩ | ⟨-, he⟩ | ⟨-, he⟩ | ⟨n, -, he⟩ <;> cases he.symm.trans h
  · exact .unchanged d
  · exact .port hd (s.output ++ [⟨p, v⟩]) s.ports
  · exact .port hd _ _

theorem writeDest_effect {d : DstOp} {a : Addr} {v : Word} {s t : State} (h : writeDest d a v s = .next t) :
    DestEffect a v s d t := by
  cases d with
  | print | punch | speak => exact emit_effect (by decide) h
  | shl =>
    obtain rfl := Host.Outcome.next.inj h
    split
    · exact .accMul (by decide) _ _
    · exact .unchanged _
  | stop =>
    obtain rfl := Host.Outcome.next.inj h
    split
    case isTrue hv => exact .stop (of_decide_eq_true hv)
    case isFalse => exact .unchanged _
  | nul1 | nul2 => cases h; exact .unchanged _
  | acc | add | sub | and | or | xor => cases h; exact .acc (by decide) _
  | mpy => cases h; exact .accMul (by decide) _ _
  | mul => cases h; exact .mul
  | aux | auxadd | auxsub => cases h; exact .aux (by decide) _
  | half | halfu => cases h; exact .half (by decide) _
  | g | gadd | gsub => cases h; exact .general (by decide) _
  | jmp | jrel => cases h; exact .jump (by decide) _
  | skip =>
    obtain rfl := Host.Outcome.next.inj h
    simp only [advanceIf_eq]
    exact .jump (by decide) _
  | imod => cases h; exact .staged _
  | m | x1 | x2 | x3 | x4 => cases h; exact .store (by decide) _

theorem exec_effect {i : Instr} {s t : State} (h : exec i s = .next t) :
    DestEffect i.addr (operand i.srcOp i.addr s) (seenBy i.srcOp s) i.dstOp t :=
  writeDest_effect ((exec_eq_writeDest i s).symm.trans h)

/-! ## What a destination operation leaves unchanged -/

namespace DestEffect

section
variable {a : Addr} {v : Word} {s t : State} {d : DstOp}

theorem acc_eq (h : DestEffect a v s d t) (hd : d ∉ [.acc, .add, .sub, .and, .or, .xor, .mpy, .shl]) :
    t.acc = s.acc := by
  cases h with
  | acc hw | accMul hw => simp_all
  | _ => simp [memWrite_eq, writeG, fetch_eq]

theorem mul_eq (h : DestEffect a v s d t) (hd : d ∉ [.mul, .mpy, .shl]) : t.mul = s.mul := by
  cases h with
  | mul => exact absurd List.mem_cons_self hd
  | accMul hw => exact absurd (List.mem_cons_of_mem .mul hw) hd
  | _ => simp [memWrite_eq, writeG, fetch_eq]

theorem aux_eq (h : DestEffect a v s d t) (hd : d ∉ [.aux, .auxadd, .auxsub]) : t.aux = s.aux := by
  cases h with
  | aux hw => exact absurd hw hd
  | _ => simp [memWrite_eq, writeG, fetch_eq]

theorem half_eq (h : DestEffect a v s d t) (hd : d ∉ [.half, .halfu]) : t.half = s.half := by
  cases h with
  | half hw => exact absurd hw hd
  | _ => simp [memWrite_eq, writeG, fetch_eq]

/-- A destination writes no general register but the one that the address field names (R27). -/
theorem g_eq (h : DestEffect a v s d t) (j : Fin 16) (hd : d ∉ [.g, .gadd, .gsub] ∨ j.val ≠ a.toNat % 16) :
    t.g[j] = s.g[j] := by
  cases h with
  | general hw w =>
    have hj : ¬ (gIndex a).toNat = j.val := by
      rw [gIndex_toNat]
      exact Ne.symm (hd.resolve_left (not_not_intro hw))
    simp [writeG, hj]
  | _ => simp [memWrite_eq, fetch_eq]

theorem seq_eq (h : DestEffect a v s d t) (hd : d ∉ [.jmp, .jrel, .skip]) : t.seq = s.seq := by
  cases h with
  | jump hw => exact absurd hw hd
  | _ => simp [memWrite_eq, writeG]

/-- Destinations 23, 24 and 25 fetch again; no other but 26 writes `S` or `I` (R170 to R174). -/
theorem ir_eq (h : DestEffect a v s d t) (hd : d ≠ .imod) (hs : s.ir = s.main.read (s.seq.toNat / 1024)) :
    t.ir = s.main.read (t.seq.toNat / 1024) := by
  cases h with
  | staged => exact absurd rfl hd
  | jump hw q => simp [fetch_setSeq, hi_toNat]
  | _ => simp [memWrite_eq, writeG, hs]

theorem run_eq (h : DestEffect a v s d t) : t.run = s.run ∨ (d = .stop ∧ v ≠ 0 ∧ t.run = .stopped) := by
  cases h with
  | stop hv => exact .inr ⟨rfl, hv, rfl⟩
  | _ => simp [memWrite_eq, writeG, fetch_eq]

theorem keeps_wf (h : DestEffect a v s d t) (hs : s.wf = true) : t.wf = true := by
  cases h with
  | store hw k => exact wf_memWrite k a v s hs
  | _ => exact hs

end

end DestEffect

/-- Settles O37: of the parts a destination can write, each register is one; among the sources only source 9 writes a
register. -/
theorem eachRegisterIsWrittenOnlyByItsOperations : Obligations.EachRegisterIsWrittenOnlyByItsOperations := by
  intro i s t h
  have e := exec_effect h
  exact ⟨fun hr hd => (e.acc_eq hd).trans (accAfter_of_ne hr s), e.mul_eq, e.aux_eq, e.half_eq, e.g_eq⟩

/-- Settles O38: the default fetch stages the word at the advanced `S`, and the jumps fetch at theirs. -/
theorem sequenceAndStagedInstructionAfterAStep : Obligations.SequenceAndStagedInstructionAfterAStep := by
  intro i s t h
  have e := exec_effect h
  exact ⟨e.seq_eq, fun hd => e.ir_eq hd rfl⟩

/-- Settles O42: destination 31 is the one part of the table that writes the run state. -/
theorem onlyStopChangesTheRunState : Obligations.OnlyStopChangesTheRunState := by
  intro i s t h
  exact (exec_effect h).run_eq

/-- Settles O43: the input registers are among the launch parameters, which no instruction changes. -/
theorem noInstructionWritesTheInputRegisters : Obligations.NoInstructionWritesTheInputRegisters := by
  intro i s t h
  exact HostInputs.mk.inj (exec_sameLaunchParameters h).inputs

/-! ## The canonical form of the stores -/

/-- The canonical form is about the stores alone. -/
theorem wf_congr {s t : State} (h : t.storeOf = s.storeOf) : t.wf = s.wf := by
  rw [Bool.eq_iff_iff, wf_iff, wf_iff, h]

theorem exec_wf {i : Instr} {s t : State} (hs : s.wf = true) (h : exec i s = .next t) : t.wf = true :=
  (exec_effect h).keeps_wf ((wf_congr (seenBy_storeOf i.srcOp s)).trans hs)

theorem hostBetweenSteps_storeOf (f : Nat → HostInputs) (s : State) :
    (hostBetweenSteps f s).storeOf = s.storeOf := by
  obtain ⟨i, l, h⟩ := hostBetweenSteps_eq f s
  funext k
  simp [h]

theorem stepWith_wf {f : Nat → HostInputs} {s t : State} (hs : s.wf = true) (h : stepWith f s = .next t) :
    t.wf = true := by
  obtain ⟨-, u, hu, rfl⟩ := stepWith_next h
  exact (wf_congr (hostBetweenSteps_storeOf f u)).trans (exec_wf hs hu)

/-- Settles O50: a step writes a store only through `memWrite`, which keeps the form, and the host writes none. -/
theorem everyStepKeepsTheStoresCanonical : Obligations.EveryStepKeepsTheStoresCanonical := by
  intro s t hs h
  exact stepWith_wf hs h

/-! ## The launch -/

@[simp] theorem memRead_reset (k : StoreId) (a : Addr) : memRead k a State.reset = 0 := by
  cases k <;> rfl

/-- Settles O53: `reset` is written out field by field, and a store with nothing listed reads 0. -/
theorem resetValues : Obligations.ResetValues := by
  refine ⟨rfl, rfl, rfl, rfl, fun j => ?_, rfl, rfl, rfl, rfl, rfl, rfl, memRead_reset⟩
  simp [State.reset]

/-- A launch action is the load of a word or leaves the stores alone. -/
theorem launchAction_cases (x : LaunchAction) (s : State) :
    (∃ k a v, x = .load k a v ∧ x.apply s = memWrite k a v s) ∨ (x.apply s).storeOf = s.storeOf := by
  cases x with
  | load k a v => exact .inl ⟨k, a, v, rfl, rfl⟩
  | _ => right; funext k; simp [LaunchAction.apply, writeG]

theorem apply_wf (x : LaunchAction) {s : State} (hs : s.wf = true) : (x.apply s).wf = true := by
  rcases launchAction_cases x s with ⟨k, a, v, -, h⟩ | h
  · rw [h]
    exact wf_memWrite k a v s hs
  · exact (wf_congr h).trans hs

theorem foldl_apply_wf (actions : List LaunchAction) {s : State} (hs : s.wf = true) :
    (actions.foldl LaunchAction.apply s).wf = true := by
  induction actions generalizing s with
  | nil => exact hs
  | cons x actions ih => exact ih (apply_wf x hs)

/-- Settles O51: the reset state lists nothing, and every launch action keeps the form. -/
theorem everyLaunchHasCanonicalStores : Obligations.EveryLaunchHasCanonicalStores :=
  ⟨rfl, fun actions => foldl_apply_wf actions rfl⟩

theorem memRead_apply {x : LaunchAction} {k : StoreId} {a : Addr} (hx : ∀ v, .load k a v ≠ x) (s : State) :
    memRead k a (x.apply s) = memRead k a s := by
  rcases launchAction_cases x s with ⟨j, b, v, rfl, h⟩ | h
  · have hcell : ¬ (k = j ∧ a = b) := by
      rintro ⟨rfl, rfl⟩
      exact hx v rfl
    rw [h, memRead_memWrite, if_neg hcell]
  · rw [memRead, memRead, h]

/-- Actions that do not load a cell leave it as it was. -/
theorem memRead_foldl_apply {actions : List LaunchAction} {k : StoreId} {a : Addr}
    (h : ∀ v, .load k a v ∉ actions) (s : State) :
    memRead k a (actions.foldl LaunchAction.apply s) = memRead k a s := by
  induction actions generalizing s with
  | nil => rfl
  | cons x actions ih =>
    rw [List.foldl_cons, ih fun v hv => h v (List.mem_cons_of_mem x hv)]
    exact memRead_apply (fun v hv => h v (hv ▸ List.mem_cons_self)) s

/-- Settles O54: the actions after the last load of a cell leave it alone, from that load or from reset on. -/
theorem launchLoadsTheStores : Obligations.LaunchLoadsTheStores := by
  intro before after k a h
  refine ⟨fun v => ?_, ?_⟩
  · rw [launch, List.foldl_append, List.foldl_cons, memRead_foldl_apply h]
    simp [LaunchAction.apply]
  · rw [launch, memRead_foldl_apply h, memRead_reset]

/-! ## How a moment ends, and the trace -/

/-- An instruction gives a next state or is stuck at a port (R186, R205). -/
theorem exec_outcome (i : Instr) (s : State) :
    (∃ t, exec i s = .next t) ∨ ∃ p, exec i s = .fault (.portBlocked p) := by
  rw [exec_eq_writeDest]
  rcases hp : portOf i.dstOp with _ | p
  · obtain ⟨t, ht, -⟩ := writeDest_of_portOf_none hp i.addr (operand i.srcOp i.addr s) (seenBy i.srcOp s)
    exact .inl ⟨t, ht⟩
  · rw [writeDest_of_portOf_some hp]
    rcases emit_cases p (operand i.srcOp i.addr s) (seenBy i.srcOp s) with
      ⟨-, he⟩ | ⟨-, he⟩ | ⟨-, he⟩ | ⟨n, -, he⟩
    · exact .inl ⟨_, he⟩
    · exact .inl ⟨_, he⟩
    · exact .inr ⟨p, he⟩
    · exact .inl ⟨_, he⟩

/-- A step gives a next state, finds the machine stopped, or is stuck at a port. -/
theorem stepWith_outcome (f : Nat → HostInputs) (s : State) :
    (∃ t, stepWith f s = .next t) ∨ (s.run = .stopped ∧ stepWith f s = .fault .stopped) ∨
    ∃ p, stepWith f s = .fault (.portBlocked p) := by
  rcases stepWith_cases f s with hstopped | ⟨-, ⟨t, -, hs⟩ | ⟨e, he, hs⟩ | ⟨r, hr, -⟩⟩
  · exact .inr (.inl hstopped)
  · exact .inl ⟨_, hs⟩
  · rcases exec_outcome (decode s.ir) s with ⟨t, ht⟩ | ⟨p, hp⟩
    · cases he.symm.trans ht
    · cases he.symm.trans hp
      exact .inr (.inr ⟨p, hs⟩)
  · rcases exec_outcome (decode s.ir) s with ⟨t, ht⟩ | ⟨p, hp⟩
    · cases hr.symm.trans ht
    · cases hr.symm.trans hp

/-- A moment ends as a step does, or is the wait of a paced machine. -/
theorem clock_outcome (f : Nat → HostInputs) (tick : Bool) (s : State) :
    (∃ t, clock f tick s = .next t) ∨ (s.run = .stopped ∧ clock f tick s = .fault .stopped) ∨
    ∃ p, clock f tick s = .fault (.portBlocked p) := by
  unfold clock
  split
  · exact stepWith_outcome f s
  · exact stepWith_outcome f s
  · exact .inl ⟨s, rfl⟩

/-- The run and its trace after one moment: both go on from the next state, or both end where the machine is, stopped or
stuck. -/
theorem moment_cases (f : Nat → HostInputs) (tick : Bool) (s : State) :
    (∃ t, ∀ rest, trace f (tick :: rest) s = s :: trace f rest t ∧
      runOver f (tick :: rest) s = runOver f rest t) ∨
    (∀ rest, trace f (tick :: rest) s = [s] ∧ (runOver f (tick :: rest) s).final = s ∧
      (s.run = .stopped ∨ ∃ p, (runOver f (tick :: rest) s).ending = .stuck p)) := by
  rcases clock_outcome f tick s with ⟨t, h⟩ | ⟨hrun, h⟩ | ⟨p, h⟩
  · exact .inl ⟨t, fun rest => by simp [trace, runOver, h]⟩
  · exact .inr fun rest => by simp [trace, runOver, h, hrun]
  · exact .inr fun rest => by simp [trace, runOver, h]

@[simp] theorem runOver_nil_final (f : Nat → HostInputs) (s : State) : (runOver f [] s).final = s := by
  unfold runOver
  split <;> rfl

theorem trace_ne_nil (f : Nat → HostInputs) (ts : List Bool) (s : State) : trace f ts s ≠ [] := by
  intro h
  simpa [h] using trace_zero f ts s

theorem trace_getLast? (f : Nat → HostInputs) (ts : List Bool) (s : State) :
    (trace f ts s).getLast? = some (runOver f ts s).final := by
  induction ts generalizing s with
  | nil => simp [trace]
  | cons tick rest ih =>
    rcases moment_cases f tick s with ⟨t, h⟩ | h
    · obtain ⟨htrace, hrun⟩ := h rest
      rw [htrace, hrun, List.getLast?_cons_of_ne_nil (trace_ne_nil f rest t), ih]
    · obtain ⟨htrace, hfinal, -⟩ := h rest
      simp [htrace, hfinal]

/-- Entry `k` of the trace is where the run over the first `k` moments ends. -/
theorem trace_getElem? (f : Nat → HostInputs) (ts : List Bool) (s : State) (k : Nat)
    (hk : k < (trace f ts s).length) : (trace f ts s)[k]? = some (runOver f (ts.take k) s).final := by
  induction k generalizing ts s with
  | zero => simp [trace_zero]
  | succ k ih =>
    cases ts with
    | nil => simp [trace] at hk
    | cons tick rest =>
      rcases moment_cases f tick s with ⟨t, h⟩ | h
      · rw [(h rest).1] at hk ⊢
        rw [List.take_succ_cons, (h _).2, List.getElem?_cons_succ]
        exact ih rest t (by simpa using hk)
      · simp [(h rest).1] at hk

theorem trace_length_le (f : Nat → HostInputs) (ts : List Bool) (s : State) :
    (trace f ts s).length ≤ ts.length + 1 := by
  induction ts generalizing s with
  | nil => simp [trace]
  | cons tick rest ih =>
    rcases moment_cases f tick s with ⟨t, h⟩ | h
    · simpa [(h rest).1] using ih t
    · simp [(h rest).1]

theorem trace_length_of_running {f : Nat → HostInputs} {ts : List Bool} {s : State}
    (hstuck : ∀ p, (runOver f ts s).ending ≠ .stuck p) (hrun : (runOver f ts s).final.run = .running) :
    (trace f ts s).length = ts.length + 1 := by
  induction ts generalizing s with
  | nil => simp [trace]
  | cons tick rest ih =>
    rcases moment_cases f tick s with ⟨t, h⟩ | h
    · obtain ⟨htrace, hover⟩ := h rest
      rw [hover] at hstuck hrun
      simp [htrace, ih hstuck hrun]
    · obtain ⟨-, hfinal, hstopped | ⟨p, hp⟩⟩ := h rest
      · rw [hfinal, hstopped] at hrun
        cases hrun
      · exact absurd hp (hstuck p)

/-- Settles O59: moment by moment the trace and the run go on from the same state, or end in it together. -/
theorem traceShowsTheRunAndChangesNothing : Obligations.TraceShowsTheRunAndChangesNothing := by
  intro f ts s
  refine ⟨?_, trace_getLast? f ts s, trace_getElem? f ts s, trace_length_le f ts s, trace_length_of_running⟩
  rw [List.head?_eq_getElem?, trace_zero]

end Sys2Proof.Machine
end

section
/-! SUPPORT. The stores (20_memory.md R46 to R55): a canonical store is its 1024 words, a store operation changes one
cell of the store it names, and the contents of the auxiliary stores reach a state only through their own sources; and the
statements about them. -/

set_option autoImplicit false

open Sys2Proof Sys2Proof.Machine Sys2Proof.Spec

namespace Sys2Proof.Machine

/-! ## A canonical store is its 1024 words -/

namespace Memory

section
variable {k j : Nat} {x y : Word} {m n : Memory}

theorem read_eq_unlistedWord_of_lt (h : wf ((k, x) :: m) = true) {a : Nat} (ha : a < k) :
    read ((k, x) :: m) a = unlistedWord := by
  obtain ⟨-, -, hm, -⟩ := (wf_cons k x m).1 h
  refine read_of_not_mem _ _ fun c hc => ?_
  rcases List.mem_cons.1 hc with rfl | hc
  · exact Nat.ne_of_gt ha
  · exact Nat.ne_of_gt (ha.trans (hm c hc))

/-- A canonical store lists no address twice. -/
theorem read_tail_head (h : wf ((k, x) :: m) = true) : read m k = unlistedWord := by
  obtain ⟨-, -, hm, -⟩ := (wf_cons k x m).1 h
  exact read_of_not_mem m k fun c hc => Nat.ne_of_gt (hm c hc)

/-- A listed word is not what an unlisted address reads as, so a store that reads the same there lists it, or lists an
address before it. -/
theorem head_le_of_read_eq (hm : wf ((k, x) :: m) = true) (hn : wf ((j, y) :: n) = true)
    (h : read ((k, x) :: m) k = read ((j, y) :: n) k) : j ≤ k := by
  by_contra hlt
  obtain ⟨-, hx, -, -⟩ := (wf_cons k x m).1 hm
  rw [read_cons, if_pos rfl, read_eq_unlistedWord_of_lt hn (Nat.lt_of_not_le hlt)] at h
  exact hx h

theorem ne_nil_of_read_eq (hm : wf ((k, x) :: m) = true) (h : read ((k, x) :: m) k = read n k) : n ≠ [] := by
  rintro rfl
  obtain ⟨-, hx, -, -⟩ := (wf_cons k x m).1 hm
  rw [read_cons, if_pos rfl] at h
  exact hx h

end

theorem eq_of_read_eq {m n : Memory} (hm : wf m = true) (hn : wf n = true)
    (h : ∀ a < storeSize, read m a = read n a) : m = n := by
  induction m generalizing n with
  | nil =>
    cases n with
    | nil => rfl
    | cons d n => exact absurd rfl (ne_nil_of_read_eq hn (h d.1 ((wf_cons _ _ _).1 hn).1).symm)
  | cons c m ih =>
    obtain ⟨k, x⟩ := c
    obtain ⟨hk, -, -, hm'⟩ := (wf_cons k x m).1 hm
    cases n with
    | nil => exact absurd rfl (ne_nil_of_read_eq hm (h k hk))
    | cons d n =>
      obtain ⟨j, y⟩ := d
      obtain ⟨hj, -, -, hn'⟩ := (wf_cons j y n).1 hn
      obtain rfl : k = j :=
        Nat.le_antisymm (head_le_of_read_eq hn hm (h j hj).symm) (head_le_of_read_eq hm hn (h k hk))
      obtain rfl : x = y := by simpa [read_cons] using h k hk
      have htail : ∀ a < storeSize, read m a = read n a := by
        intro a ha
        by_cases hka : k = a
        · rw [← hka, read_tail_head hm, read_tail_head hn]
        · simpa [read_cons, hka] using h a ha
      rw [ih hm' hn' htail]

end Memory

/-- Settles O52: every address inside the store is a ten-bit address, and the canonical form of the words read there is
unique, entry by entry. -/
theorem canonicalStoresThatReadAlikeAreEqual : Obligations.CanonicalStoresThatReadAlikeAreEqual := by
  intro m n hm hn h
  exact Memory.eq_of_read_eq hm hn fun a ha => h ⟨a, ha⟩

/-! ## What an instruction does to the cells of the stores -/

/-- The destination operation that writes a store (R126, R138 to R141). -/
def storeDest : StoreId → DstOp
  | .main => .m
  | .x1 => .x1
  | .x2 => .x2
  | .x3 => .x3
  | .x4 => .x4

theorem storeDest_injective {j k : StoreId} (h : storeDest j = storeDest k) : j = k := by
  cases j <;> cases k <;> cases h <;> rfl

theorem storeDest_mem (k : StoreId) : storeDest k ∈ [.m, .x1, .x2, .x3, .x4] := by
  cases k <;> decide

theorem exists_storeDest_eq {d : DstOp} (hd : d ∈ [.m, .x1, .x2, .x3, .x4]) : ∃ k, storeDest k = d := by
  simp only [List.mem_cons, List.not_mem_nil, or_false] at hd
  rcases hd with rfl | rfl | rfl | rfl | rfl
  exacts [⟨.main, rfl⟩, ⟨.x1, rfl⟩, ⟨.x2, rfl⟩, ⟨.x3, rfl⟩, ⟨.x4, rfl⟩]

theorem writeDest_storeDest (k : StoreId) (a : Addr) (v : Word) (s : State) :
    writeDest (storeDest k) a v s = .next (memWrite k a v s) := by
  cases k <;> rfl

theorem memWrite_storeOf_read (k j : StoreId) (a : Addr) (b : Nat) (v : Word) (s : State) :
    ((memWrite k a v s).storeOf j).read b = if j = k ∧ b = a.toNat then v else (s.storeOf j).read b := by
  rw [memWrite_eq, State.setStore_storeOf]
  by_cases hj : j = k
  · subst hj
    simp
  · simp [hj]

/-- A destination that writes no store leaves them all alone. -/
theorem DestEffect.storeOf_eq {a : Addr} {v : Word} {s t : State} {d : DstOp} (h : DestEffect a v s d t)
    (hd : d ∉ [.m, .x1, .x2, .x3, .x4]) : t.storeOf = s.storeOf := by
  funext j
  cases h with
  | store hw => exact absurd hw hd
  | _ => simp [writeG, fetch_eq]

theorem writeDest_storeOf_read {d : DstOp} {a : Addr} {v : Word} {s t : State} (h : writeDest d a v s = .next t)
    (j : StoreId) (b : Nat) :
    (t.storeOf j).read b = if d = storeDest j ∧ b = a.toNat then v else (s.storeOf j).read b := by
  by_cases hd : d ∈ [.m, .x1, .x2, .x3, .x4]
  · obtain ⟨k, rfl⟩ := exists_storeDest_eq hd
    cases (writeDest_storeDest k a v s).symm.trans h
    rw [memWrite_storeOf_read]
    have hstore : j = k ↔ storeDest k = storeDest j := ⟨fun e => e ▸ rfl, fun e => (storeDest_injective e).symm⟩
    simp only [hstore]
  · have hne : d ≠ storeDest j := fun e => hd (e ▸ storeDest_mem j)
    rw [(writeDest_effect h).storeOf_eq hd, if_neg fun c => hne c.1]

/-- After an instruction every cell of every store reads as before, but for the cell at the address field of the store
that the destination writes, which reads the source value (R47, R48, R55). -/
theorem exec_storeOf_read {i : Instr} {s t : State} (h : exec i s = .next t) (k : StoreId) (b : Nat) :
    (t.storeOf k).read b =
      if i.dstOp = storeDest k ∧ b = i.addr.toNat then operand i.srcOp i.addr s else (s.storeOf k).read b := by
  rw [writeDest_storeOf_read ((exec_eq_writeDest i s).symm.trans h), seenBy_storeOf]

theorem exec_storeOf_read_of_ne {i : Instr} {s t : State} (h : exec i s = .next t) (k : StoreId) (b : Nat)
    (hb : i.dstOp ≠ storeDest k ∨ b ≠ i.addr.toNat) : (t.storeOf k).read b = (s.storeOf k).read b := by
  rw [exec_storeOf_read h, if_neg (not_and_or.2 hb)]

/-- Settles O41: a destination writes at most one store, at the instruction's own address field. -/
theorem onlyTheAddressedCellOfTheDestinationStoreChanges :
    Obligations.OnlyTheAddressedCellOfTheDestinationStoreChanges := by
  intro i s t b h
  have hcell := fun k => exec_storeOf_read_of_ne h k b
  exact ⟨hcell .main, hcell .x1, hcell .x2, hcell .x3, hcell .x4⟩

/-- Settles O40: the default fetch stages the cell before the destination writes it. -/
theorem storeIntoTheNextWordIsNotSeenByTheStagedInstruction :
    Obligations.StoreIntoTheNextWordIsNotSeenByTheStagedInstruction := by
  intro a r s ha
  have hexec : exec (.dstM a r) s = .next (memWrite .main a (operand r a s) (seenBy r s)) :=
    exec_eq_writeDest (.dstM a r) s
  refine ⟨_, hexec, ?_, ?_⟩
  · rw [ha]
    rfl
  · exact (exec_storeOf_read hexec .main a.toNat).trans (if_pos ⟨rfl, rfl⟩)

/-! ## Other contents of the auxiliary stores -/

/-- The state with these contents in the four auxiliary stores. -/
def State.withAux (s : State) (m1 m2 m3 m4 : Memory) : State := { s with x1 := m1, x2 := m2, x3 := m3, x4 := m4 }

section
variable (m1 m2 m3 m4 : Memory)

/-- Only sources 27 to 30 read an auxiliary store (R113 to R116). -/
theorem operand_withAux {r : SrcOp} (hr : r ∉ [.x1, .x2, .x3, .x4]) (a : Addr) (s : State) :
    operand r a (s.withAux m1 m2 m3 m4) = operand r a s := by
  cases r with
  | x1 | x2 | x3 | x4 => exact absurd (by decide) hr
  | _ => rfl

/-- The source operation, the advance and the default fetch write no auxiliary store and read none (R48). -/
theorem seenBy_withAux (r : SrcOp) (s : State) :
    seenBy r (s.withAux m1 m2 m3 m4) = (seenBy r s).withAux m1 m2 m3 m4 := rfl

theorem emit_withAux {p : Port} {v : Word} {s t : State} (h : emit p v s = .next t) :
    emit p v (s.withAux m1 m2 m3 m4) = .next (t.withAux m1 m2 m3 m4) := by
  have hports : (s.withAux m1 m2 m3 m4).ports.get p = s.ports.get p := rfl
  rcases emit_cases p v s with ⟨hp, he⟩ | ⟨hp, he⟩ | ⟨-, he⟩ | ⟨n, hp, he⟩ <;> cases he.symm.trans h <;>
    rw [emit, hports, hp] <;> rfl

theorem advanceIf_withAux (c : Bool) (s : State) :
    advanceIf c (s.withAux m1 m2 m3 m4) = (advanceIf c s).withAux m1 m2 m3 m4 := by
  cases c <;> rfl

/-- No destination operation reads an auxiliary store: with other contents there it completes too, and leaves the same
state outside them. -/
theorem writeDest_withAux {d : DstOp} {a : Addr} {v : Word} {s t : State} (h : writeDest d a v s = .next t) :
    ∃ n1 n2 n3 n4, writeDest d a v (s.withAux m1 m2 m3 m4) = .next (t.withAux n1 n2 n3 n4) := by
  cases d with
  | print | punch | speak => exact ⟨m1, m2, m3, m4, emit_withAux m1 m2 m3 m4 h⟩
  | shl | stop =>
    obtain rfl := Host.Outcome.next.inj h
    refine ⟨m1, m2, m3, m4, congrArg Host.Outcome.next ?_⟩
    split <;> rfl
  | skip =>
    obtain rfl := Host.Outcome.next.inj h
    refine ⟨m1, m2, m3, m4, congrArg Host.Outcome.next ?_⟩
    rw [advanceIf_withAux, advanceIf_withAux]
    rfl
  | _ => cases h; exact ⟨_, _, _, _, rfl⟩

theorem exec_withAux {i : Instr} {s t : State} (hr : i.srcOp ∉ [.x1, .x2, .x3, .x4]) (h : exec i s = .next t) :
    ∃ n1 n2 n3 n4, exec i (s.withAux m1 m2 m3 m4) = .next (t.withAux n1 n2 n3 n4) := by
  rw [exec_eq_writeDest] at h ⊢
  rw [operand_withAux m1 m2 m3 m4 hr, seenBy_withAux]
  exact writeDest_withAux m1 m2 m3 m4 h

end

/-- Settles O49: neither the source value, the fetch nor the destination depends on the auxiliary stores, and their cells
after the instruction are those of the other contents, but for the cell written. -/
theorem auxiliaryStoresReachNothingButTheirSources : Obligations.AuxiliaryStoresReachNothingButTheirSources := by
  intro i s t m1 m2 m3 m4 hr h
  obtain ⟨n1, n2, n3, n4, hn⟩ := exec_withAux m1 m2 m3 m4 hr h
  have hcell := exec_storeOf_read hn
  rw [operand_withAux m1 m2 m3 m4 hr] at hcell
  exact ⟨n1, n2, n3, n4, hn, fun b => ⟨hcell .x1 b, hcell .x2 b, hcell .x3 b, hcell .x4 b⟩⟩

end Sys2Proof.Machine
end

section
/-! SUPPORT. Encoding (30_encoding.md R66 to R75): a word is its three fields, decoding and encoding are inverse to each
other, an instruction means what the three fields of its word say; and the statements about them. -/

set_option autoImplicit false

open Sys2Proof Sys2Proof.Machine Sys2Proof.Spec

namespace Sys2Proof.Machine

/-! ## A word is its three fields -/

theorem srcField_toNat (w : Word) : (srcField w).toNat = w.toNat / 32 % 32 := by
  simp [srcField, Nat.shiftRight_eq_div_pow]

theorem dstField_toNat (w : Word) : (dstField w).toNat = w.toNat % 32 := by
  simp [dstField]

theorem word_eq_of_fields {w x : Word} (hhi : hi w = hi x) (hsrc : srcField w = srcField x)
    (hdst : dstField w = dstField x) : w = x := by
  apply_fun BitVec.toNat at hhi hsrc hdst
  rw [hi_toNat, hi_toNat] at hhi
  rw [srcField_toNat, srcField_toNat] at hsrc
  rw [dstField_toNat, dstField_toNat] at hdst
  exact BitVec.eq_of_toNat_eq (by omega)

theorem srcOp_code_injective {r q : SrcOp} (h : r.code = q.code) : r = q := by
  rw [← SrcOp.ofCode_code r, h, SrcOp.ofCode_code]

theorem dstOp_code_injective {d e : DstOp} (h : d.code = e.code) : d = e := by
  rw [← DstOp.ofCode_code d, h, DstOp.ofCode_code]

/-! ## Decoding and encoding -/

/-- Every word, read by either half of the opcode table, is the word of what is read (R66, R73). -/
theorem encode_decodeAs (f : Format) (w : Word) : encode (decodeAs f w) = w := by
  obtain ⟨haddr, hsrc, hdst, -⟩ := decodeAs_fields f w
  rw [encode, haddr, hsrc, hdst]
  apply word_eq_of_fields
  · rw [hi_encodeFields]
  · rw [srcField_encodeFields, SrcOp.code_ofCode]
  · rw [dstField_encodeFields, DstOp.code_ofCode]

/-- The word of an instruction, read by the half of the table its row stands in, is the instruction (R72). -/
theorem decodeAs_encode (i : Instr) : decodeAs i.format (encode i) = i := by
  obtain ⟨haddr, hsrc, hdst, hformat⟩ := decodeAs_fields i.format (encode i)
  apply Instr.ext_fields _ _ hformat
  · rw [haddr, encode, hi_encodeFields]
  · rw [hsrc, encode, srcField_encodeFields, SrcOp.ofCode_code]
  · rw [hdst, encode, dstField_encodeFields, DstOp.ofCode_code]

theorem wellFormed_iff (i : Instr) : i.wellFormed = true ↔ i.format = readingOf i.dstOp := decide_eq_true_iff

/-- The decoder reads the word of an instruction by the half of the table that its destination operation names. -/
theorem decode_encode_eq (i : Instr) : decode (encode i) = decodeAs (readingOf i.dstOp) (encode i) := by
  rw [decode, encode, dstField_encodeFields, DstOp.ofCode_code]

theorem decode_encode {i : Instr} (h : i.wellFormed = true) : decode (encode i) = i := by
  rw [decode_encode_eq, ← (wellFormed_iff i).1 h, decodeAs_encode]

theorem decode_wellFormed (w : Word) : (decode w).wellFormed = true := by
  obtain ⟨-, -, hdst, hformat⟩ := decodeAs_fields (readingOf (DstOp.ofCode (dstField w))) w
  rw [wellFormed_iff, decode, hformat, hdst]

/-- Settles O3: encoding keeps the three fields, which with the half of the table are the instruction, and reading a word
keeps its three fields, which are the word. -/
theorem decodeAndEncodeAgree : Obligations.DecodeAndEncodeAgree :=
  ⟨decodeAs_encode, fun _ => decode_encode, fun w => ⟨decode_wellFormed w, encode_decodeAs _ w⟩⟩

/-- Settles O2: a reading holds the three fields of the word, and the code of the operation that a field selects is the
field. -/
theorem fieldsOfEveryWordStandWhereSpecSays : Obligations.FieldsOfEveryWordStandWhereSpecSays := by
  intro f w
  obtain ⟨haddr, hsrc, hdst, -⟩ := decodeAs_fields f w
  refine ⟨?_, ?_, ?_, encode_decodeAs f w⟩
  · rw [haddr]
    exact hi_toNat w
  · rw [hsrc, SrcOp.code_ofCode]
    exact srcField_toNat w
  · rw [hdst, DstOp.code_ofCode]
    exact dstField_toNat w

/-! ## Two instructions with one word -/

theorem fields_eq_of_encode_eq {i j : Instr} (h : encode i = encode j) :
    i.addr = j.addr ∧ i.srcOp = j.srcOp ∧ i.dstOp = j.dstOp := by
  have hhi := congrArg hi h
  have hsrc := congrArg srcField h
  have hdst := congrArg dstField h
  simp only [encode, hi_encodeFields, srcField_encodeFields, dstField_encodeFields] at hhi hsrc hdst
  exact ⟨hhi, srcOp_code_injective hsrc, dstOp_code_injective hdst⟩

/-- Settles O4: one word gives one address field and one pair of operations, and they are all that `exec` uses. -/
theorem bothReadingsOfAWordMeanTheSame : Obligations.BothReadingsOfAWordMeanTheSame := by
  intro i j s h
  obtain ⟨haddr, hsrc, hdst⟩ := fields_eq_of_encode_eq h
  rw [exec_eq_runInstr, exec_eq_runInstr, haddr, hsrc, hdst]

/-- Settles O1: the decoder, run on each of the seven words. -/
theorem wordsWrittenOutDecode : Obligations.WordsWrittenOutDecode := by
  unfold Obligations.WordsWrittenOutDecode
  decide

end Sys2Proof.Machine
end

section
/-! SUPPORT. The source rows (40_source.md R86 to R121): the value of each source as arithmetic on the registers it reads,
and that an instruction whose port does not block hands this value over to its destination; and the statements about
them. -/

set_option autoImplicit false

open Sys2Proof Sys2Proof.Machine Sys2Proof.Spec

namespace Sys2Proof.Machine

/-! ## An instruction whose port is ready hands its source value over -/

theorem emit_completes {p : Port} {s : State} (h : Sink.ready (s.ports.get p) = true) (v : Word) :
    ∃ t, emit p v s = .next t := by
  rcases emit_cases p v s with ⟨-, he⟩ | ⟨-, he⟩ | ⟨hp, -⟩ | ⟨n, -, he⟩
  · exact ⟨_, he⟩
  · exact ⟨_, he⟩
  · rw [hp] at h
    cases h
  · exact ⟨_, he⟩

/-- A destination operation completes, unless its port blocks (R186, R205). -/
theorem writeDest_completes {d : DstOp} {s : State} (h : portReady d s = true) (a : Addr) (v : Word) :
    ∃ t, writeDest d a v s = .next t := by
  rcases hp : portOf d with _ | p
  · obtain ⟨t, ht, -⟩ := writeDest_of_portOf_none hp a v s
    exact ⟨t, ht⟩
  · rw [portReady, hp] at h
    rw [writeDest_of_portOf_some hp]
    exact emit_completes h v

/-- The source operation, the advance and the fetch leave the ports alone. -/
theorem portReady_fetched (d : DstOp) (s : State) (acc : Word) : portReady d (fetched s acc) = portReady d s := rfl

/-- An instruction whose port does not block hands over the value of its source operation, and its destination sees `Acc`
as the source operation left it (R71, R118, R142). -/
theorem handsOver {i : Instr} {s : State} {v acc : Word} (hport : portReady i.dstOp s = true)
    (hv : operand i.srcOp i.addr s = v) (hacc : accAfter i.srcOp s = acc) : HandsOver i s v acc := by
  obtain ⟨t, ht⟩ := writeDest_completes ((portReady_fetched i.dstOp s acc).trans hport) i.addr v
  refine ⟨t, ht, ?_⟩
  rw [exec_eq_writeDest, hv, seenBy, hacc]
  exact ht

/-! ## The values of the sources, as arithmetic -/

theorem shiftLeft_eq_ofNat (w : Word) (n : Nat) : w <<< n = BitVec.ofNat 20 (w.toNat * 2 ^ n) := by
  rw [← Nat.shiftLeft_eq]
  rfl

theorem shiftRight_eq_ofNat (w : Word) (n : Nat) : w >>> n = BitVec.ofNat 20 (w.toNat / 2 ^ n) := by
  rw [← Nat.shiftRight_eq_div_pow, ← BitVec.toNat_ushiftRight, BitVec.ofNat_toNat, BitVec.setWidth_eq]

theorem and_one_eq_ofNat (w : Word) : w &&& 1 = BitVec.ofNat 20 (w.toNat % 2) := by
  apply BitVec.eq_of_toNat_eq
  rw [BitVec.toNat_and, BitVec.toNat_ofNat, Nat.mod_eq_of_lt (by omega)]
  exact Nat.and_one_is_mod w.toNat

theorem sign_eq_neg (w : Word) : sign w = neg w :=
  (BitVec.msb_eq_getLsbD_last w).symm.trans (BitVec.msb_eq_decide w)

theorem and_signWord (w : Word) : w &&& signWord = if sign w then signWord else 0 := BitVec.and_twoPow w 19

/-- The sign bit in place is bit 20 alone (R91, R121). -/
theorem signInPlace_eq_ofNat (w : Word) : signInPlace w = BitVec.ofNat 20 (signPart w) := by
  rw [signInPlace, and_signWord, sign_eq_neg, neg, signPart]
  by_cases h : w.toNat < 2 ^ 19
  · rw [decide_eq_false (Nat.not_le_of_lt h), if_pos h]
    rfl
  · rw [decide_eq_true (Nat.le_of_not_lt h), if_neg h]
    rfl

theorem signAtBit1_eq_ofNat (w : Word) : signAtBit1 w = BitVec.ofNat 20 (w.toNat / 2 ^ 19) := by
  have hw := w.isLt
  rw [signAtBit1, and_one_eq_ofNat, BitVec.toNat_ushiftRight, Nat.shiftRight_eq_div_pow, Nat.mod_eq_of_lt (by omega)]

/-- A logical shift right leaves bit 20 free, so putting the sign there is an addition (R92). -/
theorem shiftRightArith_eq_ofNat (w : Word) : shiftRightArith w = BitVec.ofNat 20 (w.toNat / 2 + signPart w) := by
  have htop : w >>> 1 &&& signWord = 0 := by
    rw [and_signWord]
    simp [sign]
  have hfree : w >>> 1 &&& signInPlace w = 0 := by
    rw [signInPlace, BitVec.and_comm w, ← BitVec.and_assoc, htop]
    exact BitVec.zero_and
  calc shiftRightArith w
      = w >>> 1 + signInPlace w := (BitVec.add_eq_or_of_and_eq_zero _ _ hfree).symm
    _ = BitVec.ofNat 20 (w.toNat / 2 + signPart w) := by
      rw [shiftRight_eq_ofNat, signInPlace_eq_ofNat, ← BitVec.ofNat_add, Nat.pow_one]

theorem setWidth_shiftLeft_eq_ofNat (h : HalfWord) :
    h.setWidth 20 <<< 10 = BitVec.ofNat 20 (h.toNat * 2 ^ 10) := by
  rw [shiftLeft_eq_ofNat, BitVec.toNat_setWidth_of_le (by decide)]

theorem readG_gIndex {a : Addr} {j : Fin 16} (h : a.toNat % 16 = j.val) (s : State) : readG (gIndex a) s = s.g[j] := by
  simp only [readG, gIndex_toNat, h, Fin.getElem_fin]

/-! ## The source rows -/

/-- Settles O11: each of the five sources is a read of its store at the address field. -/
theorem storeSourcesHandOverTheCell : Obligations.StoreSourcesHandOverTheCell := by
  intro a d s hport
  exact ⟨handsOver hport rfl rfl, handsOver hport rfl rfl, handsOver hport rfl rfl, handsOver hport rfl rfl,
    handsOver hport rfl rfl⟩

/-- Settles O13: masks and shifts of `Acc` are these sums, products and remainders. -/
theorem accumulatorSourcesHandOver : Obligations.AccumulatorSourcesHandOver := by
  intro a d s hport
  refine ⟨handsOver hport rfl rfl, handsOver hport (signInPlace_eq_ofNat s.acc) rfl,
    handsOver hport (shiftRightArith_eq_ofNat s.acc) rfl, handsOver hport ?_ rfl,
    handsOver hport (and_one_eq_ofNat s.acc) rfl⟩
  rw [Nat.mul_comm]
  exact shiftLeft_eq_ofNat s.acc 1

/-- Settles O16: the sign of `Mul` comes to bit 1, that of `Aux` stays in place, and both shifts are halvings. -/
theorem mulAndAuxSourcesHandOver : Obligations.MulAndAuxSourcesHandOver := by
  intro a d s hport
  exact ⟨handsOver hport rfl rfl, handsOver hport (signAtBit1_eq_ofNat s.mul) rfl,
    handsOver hport (shiftRight_eq_ofNat s.mul 1) rfl, handsOver hport rfl rfl,
    handsOver hport (signInPlace_eq_ofNat s.aux) rfl, handsOver hport (shiftRight_eq_ofNat s.aux 1) rfl⟩

/-- Settles O17: the address field names the register `j`, and the three sources are it, its sign bit in place and its
half. -/
theorem generalRegisterSourcesHandOver : Obligations.GeneralRegisterSourcesHandOver := by
  intro a d s j hport hj
  rw [← readG_gIndex hj s]
  exact ⟨handsOver hport rfl rfl, handsOver hport (signInPlace_eq_ofNat (readG (gIndex a) s)) rfl,
    handsOver hport (shiftRight_eq_ofNat (readG (gIndex a) s) 1) rfl⟩

/-- Settles O18: the four constants are written out in the model, and the half-register and the address field are
zero-extended. -/
theorem constantHalfAndLiteralSourcesHandOver : Obligations.ConstantHalfAndLiteralSourcesHandOver := by
  intro a d s hport
  exact ⟨handsOver hport rfl rfl, handsOver hport (BitVec.ofNat_toNat 20 s.half).symm rfl,
    handsOver hport (setWidth_shiftLeft_eq_ofNat s.half) rfl, handsOver hport rfl rfl, handsOver hport rfl rfl,
    handsOver hport (BitVec.ofNat_toNat 20 a).symm rfl, handsOver hport rfl rfl⟩

/-- Settles O12: the three sources read their register, and the destination sees the registers as they were. -/
theorem inputSourcesHandOverTheirRegister : Obligations.InputSourcesHandOverTheirRegister := by
  intro a d s hport
  exact ⟨handsOver hport rfl rfl, handsOver hport rfl rfl, handsOver hport rfl rfl⟩

/-- Settles O14: source 9 is the one source after which `Acc` is 0. -/
theorem sourceNineHandsOverAndClearsAcc : Obligations.SourceNineHandsOverAndClearsAcc := by
  intro a d s hport
  exact handsOver hport rfl rfl

/-- Settles O15: the model asks whether `Acc` is not zero, the statement whether it is. -/
theorem sourceTenTestsAccForZero : Obligations.SourceTenTestsAccForZero := by
  intro a d s hport
  exact handsOver hport (ite_not (s.acc = 0) 1 0) rfl

/-- Settles O19: the source operation comes before the advance. -/
theorem sourceTwentyThreeHandsOverSBeforeTheAdvance : Obligations.SourceTwentyThreeHandsOverSBeforeTheAdvance := by
  intro a d s hport
  exact handsOver hport rfl rfl

end Sys2Proof.Machine
end

section
/-! SUPPORT. The destinations that move a value (41_dest_moves.md R126 to R141): the next state of an instruction whose
destination is a store, a register, a no-op or a port, for every source; and the six statements about them. -/

set_option autoImplicit false

open Sys2Proof Sys2Proof.Machine Sys2Proof.Spec

namespace Sys2Proof.Machine

/-! ## Stores -/

/-- An instruction whose destination is a store writes the cell at its address field, in the state it sees. -/
theorem exec_of_storeDest {i : Instr} {k : StoreId} (hk : i.dstOp = storeDest k) (s : State) :
    exec i s = .next (memWrite k i.addr (operand i.srcOp i.addr s) (seenBy i.srcOp s)) := by
  rw [exec_eq_writeDest, hk, writeDest_storeDest]

theorem writesCell_of_storeDest {i : Instr} {k : StoreId} (hk : i.dstOp = storeDest k) (s : State) :
    WritesCell i i.srcOp k i.addr s := by
  refine ⟨(s.storeOf k).write i.addr.toNat (operand i.srcOp i.addr s), ?_, fun b => Memory.read_write ..⟩
  rw [exec_of_storeDest hk, memWrite_eq, seenBy_storeOf]

/-- Settles O20: each of the five destinations is a write to its store at the address field. -/
theorem storeDestinationsReplaceOneCell : Obligations.StoreDestinationsReplaceOneCell := by
  intro a r s
  exact ⟨writesCell_of_storeDest (i := .dstM a r) rfl s, writesCell_of_storeDest (i := .dstX1 a r) rfl s,
    writesCell_of_storeDest (i := .dstX2 a r) rfl s, writesCell_of_storeDest (i := .dstX3 a r) rfl s,
    writesCell_of_storeDest (i := .dstX4 a r) rfl s⟩

/-! ## Ports -/

@[simp] theorem Ports.set_get (p : Ports) (i : Port) : p.set i (p.get i) = p := by
  cases i <;> rfl

theorem emit_of_unconnected {p : Port} {s : State} (h : s.ports.get p = .unconnected) (v : Word) :
    emit p v s = .next s := by
  rw [emit, h]

theorem emit_of_takes_zero {p : Port} {s : State} (h : s.ports.get p = .takes 0) (v : Word) :
    emit p v s = .fault (.portBlocked p) := by
  rw [emit, h]

/-- A port that takes the word gets one event; one that takes every word stays as it is, one that takes a number of words
takes one fewer afterwards (R204, R205). -/
theorem emit_of_takes {p : Port} {s : State} {k : Sink} (h : Takes (s.ports.get p) k) (v : Word) :
    emit p v s = .next { s with ports := s.ports.set p k, output := s.output ++ [⟨p, v⟩] } := by
  rcases h with ⟨hp, rfl⟩ | ⟨n, hp, rfl⟩
  · have hsame : s.ports.set p .takesAll = s.ports := by rw [← hp, Ports.set_get]
    rw [emit, hp, hsame]
    rfl
  · rw [emit, hp]
    rfl

/-- An emission that gives a next state appends its event, or leaves the output alone. -/
theorem emit_output {p : Port} {v : Word} {s t : State} (h : emit p v s = .next t) :
    t.output = s.output ∨ t.output = s.output ++ [⟨p, v⟩] := by
  rcases emit_cases p v s with ⟨-, he⟩ | ⟨-, he⟩ | ⟨-, he⟩ | ⟨n, -, he⟩ <;> cases he.symm.trans h
  · exact .inl rfl
  · exact .inr rfl
  · exact .inr rfl

/-- An instruction whose destination is a port emits its source value, in the state it sees (R128, R129, R131). -/
theorem exec_of_portOf {i : Instr} {p : Port} (hp : portOf i.dstOp = some p) (s : State) :
    exec i s = emit p (operand i.srcOp i.addr s) (seenBy i.srcOp s) := by
  rw [exec_eq_writeDest, writeDest_of_portOf_some hp]

theorem emits_of_portOf {i : Instr} {p : Port} (hp : portOf i.dstOp = some p) (s : State) :
    Emits i i.srcOp p i.addr s := by
  rw [Emits, exec_of_portOf hp]
  have hports : (seenBy i.srcOp s).ports = s.ports := rfl
  rw [← hports]
  exact ⟨fun h => emit_of_unconnected h _, fun k h => emit_of_takes h _, fun h => emit_of_takes_zero h _⟩

/-- Settles O24: destinations 2, 3 and 10 are emissions, and what an emission does depends on how the port stands. -/
theorem portDestinationsEmitOneEvent : Obligations.PortDestinationsEmitOneEvent := by
  intro a r s
  exact ⟨emits_of_portOf (i := .dstPrint a r) rfl s, emits_of_portOf (i := .dstPunch a r) rfl s,
    emits_of_portOf (i := .dstSpeak a r) rfl s⟩

/-- Settles O45: the output is on the host's side of the state, which only an emission changes. -/
theorem outputGrowsByAtMostOneEventInOrder : Obligations.OutputGrowsByAtMostOneEventInOrder := by
  intro i s t h
  rcases exec_hostSide h with hside | ⟨p, u, hp, hside, hemit⟩
  · exact .inl (congrArg HostSide.output hside)
  · have hu : u.output = s.output := congrArg HostSide.output hside
    rw [← hu]
    exact (emit_output hemit).imp_right fun ht => ⟨p, hp, ht⟩

/-! ## Registers -/

theorem halfWord_eq_ofNat {h : HalfWord} {n : Nat} (hn : h.toNat = n) : h = BitVec.ofNat 10 n := by
  rw [← hn, BitVec.ofNat_toNat, BitVec.setWidth_eq]

theorem lo_eq_ofNat (w : Word) : lo w = BitVec.ofNat 10 (w.toNat % 2 ^ 10) := halfWord_eq_ofNat (lo_toNat w)

theorem hi_eq_ofNat (w : Word) : hi w = BitVec.ofNat 10 (w.toNat / 2 ^ 10) := halfWord_eq_ofNat (hi_toNat w)

/-- Settles O21: each of the five destinations is an update of its register; the halves of the value are its remainder
and its quotient by `2^10`. -/
theorem registerDestinationsReplaceOneRegister : Obligations.RegisterDestinationsReplaceOneRegister := by
  intro a r s
  rw [← lo_eq_ofNat, ← hi_eq_ofNat]
  exact ⟨exec_eq_writeDest (.dstAcc a r) s, exec_eq_writeDest (.dstMul a r) s, exec_eq_writeDest (.dstAux a r) s,
    exec_eq_writeDest (.dstHalf a r) s, exec_eq_writeDest (.dstHalfU a r) s⟩

/-- A write to the general register that an address field names, index by index (R27, D7). -/
theorem writeG_gIndex (a : Addr) (v : Word) (s : State) : writeG (gIndex a) v s = withG s (a.toNat % 16) v := by
  refine congrArg s.setGs (Vector.ext fun j hj => ?_)
  rw [Vector.getElem_set, Vector.getElem_ofFn, gIndex_toNat]
  simp only [eq_comm, Fin.getElem_fin]

/-- Settles O22: destination 17 is a write to the general register that the address field names. -/
theorem destinationSeventeenReplacesOneGeneralRegister :
    Obligations.DestinationSeventeenReplacesOneGeneralRegister := by
  intro a r s
  rw [← writeG_gIndex]
  exact exec_eq_writeDest (.dstG a r) s

/-! ## No operation -/

/-- Settles O23: destinations 1 and 20 give the state they see. -/
theorem noOpDestinationsDoNothing : Obligations.NoOpDestinationsDoNothing := by
  intro a r s
  exact ⟨exec_eq_writeDest (.dstNul1 a r) s, exec_eq_writeDest (.dstNul2 a r) s⟩

end Sys2Proof.Machine
end

section
/-! SUPPORT. The destinations that compute (42_dest_arith.md R151 to R166): add, subtract, the multiply unit and the
combined shifter as arithmetic on the registers, and the eight statements about them. -/

set_option autoImplicit false

open Sys2Proof Sys2Proof.Machine Sys2Proof.Spec

namespace Sys2Proof.Machine

/-! ## Add and subtract -/

theorem add20_eq_ofNat (x y : Word) : add20 x y = BitVec.ofNat 20 (x.toNat + y.toNat) := rfl

theorem add20_ofNat (w : Word) (n : Nat) : add20 w (BitVec.ofNat 20 n) = BitVec.ofNat 20 (w.toNat + n) := by
  rw [add20, BitVec.ofNat_add, BitVec.ofNat_toNat, BitVec.setWidth_eq]

theorem sub20_eq_ofInt (x y : Word) : sub20 x y = BitVec.ofInt 20 ((x.toNat : Int) - (y.toNat : Int)) := by
  rw [sub20, ← BitVec.toInt_inj, BitVec.toInt_sub, BitVec.toInt_ofInt, BitVec.toInt_eq_toNat_bmod,
    BitVec.toInt_eq_toNat_bmod, Int.sub_bmod_bmod, Int.bmod_sub_bmod]

/-- Settles O25: `Acc` is the word the source operation left, and the sum and difference are those of the words read as
numbers. -/
theorem accAddAndSubtractWrap : Obligations.AccAddAndSubtractWrap := by
  intro a r s
  rw [← add20_eq_ofNat, ← sub20_eq_ofInt]
  exact ⟨exec_eq_writeDest (.dstAdd a r) s, exec_eq_writeDest (.dstSub a r) s⟩

/-- Settles O27: as O25, on `Aux`, which no source operation changes. -/
theorem auxAddAndSubtractWrap : Obligations.AuxAddAndSubtractWrap := by
  intro a r s
  rw [← add20_eq_ofNat, ← sub20_eq_ofInt]
  exact ⟨exec_eq_writeDest (.dstAuxAdd a r) s, exec_eq_writeDest (.dstAuxSub a r) s⟩

/-- Settles O28: as O25, on the general register that the address field names. -/
theorem generalRegisterAddAndSubtractWrap : Obligations.GeneralRegisterAddAndSubtractWrap := by
  intro a r s j hj
  rw [← add20_eq_ofNat, ← sub20_eq_ofInt, ← readG_gIndex hj s, ← hj, ← writeG_gIndex, ← writeG_gIndex]
  exact ⟨exec_eq_writeDest (.dstGAdd a r) s, exec_eq_writeDest (.dstGSub a r) s⟩

/-- The model's two's-complement reading of a word is the library's (R12). -/
theorem sval_eq_toInt (w : Word) : sval w = w.toInt := by
  rw [BitVec.toInt_eq_msb_cond, BitVec.msb_eq_getLsbD_last]
  rfl

/-- Settles O29: `sval` is the library's two's-complement reading, for which these are laws of bit vectors. -/
theorem addAndSubtractAreTwosComplement : Obligations.AddAndSubtractAreTwosComplement := by
  intro x y
  simp only [sval_eq_toInt]
  exact ⟨BitVec.toInt_add x y, BitVec.toInt_sub, BitVec.le_toInt x, BitVec.toInt_lt, BitVec.ofInt_toInt⟩

/-! ## Logic -/

/-- Settles O26: the three results are the bitwise operations on words. -/
theorem accLogicIsBitByBit : Obligations.AccLogicIsBitByBit := by
  intro a r s
  exact ⟨_, _, _, exec_eq_writeDest (.dstAnd a r) s, exec_eq_writeDest (.dstOr a r) s,
    exec_eq_writeDest (.dstXor a r) s, fun n _ => ⟨BitVec.getLsbD_and, BitVec.getLsbD_or, BitVec.getLsbD_xor⟩⟩

/-! ## Multiply -/

theorem magnitude_eq_mag (w : Word) : magnitude w = mag w := Nat.and_two_pow_sub_one_eq_mod w.toNat 19

/-- The top part of the product of two 19-bit magnitudes has 19 bits, so it stays below the sign's place. -/
theorem mag_mul_mag_div_lt (v w : Word) : mag v * mag w / 2 ^ 19 < 2 ^ 19 := by
  have hv : mag v < 2 ^ 19 := Nat.mod_lt _ (by decide)
  have hw : mag w < 2 ^ 19 := Nat.mod_lt _ (by decide)
  exact Nat.div_lt_of_lt_mul (Nat.mul_lt_mul'' hv hw)

/-- The exclusive OR of the signs, in the sign's place, as a number. -/
theorem productSign_shiftLeft (v w : Word) :
    (productSign v w).toNat <<< 19 = if neg v = neg w then 0 else 2 ^ 19 := by
  rw [productSign, sign_eq_neg, sign_eq_neg]
  cases neg v <;> cases neg w <;> rfl

/-- The high word is a sum: its sign and the top product bits do not overlap (R158, D2). -/
theorem productHigh_eq_ofNat (v w : Word) :
    productHigh v w = BitVec.ofNat 20 ((if neg v = neg w then 0 else 2 ^ 19) + mag v * mag w / 2 ^ 19) := by
  rw [productHigh, product, magnitude_eq_mag, magnitude_eq_mag, Nat.shiftRight_eq_div_pow,
    ← Nat.shiftLeft_add_eq_or_of_lt (mag_mul_mag_div_lt v w), productSign_shiftLeft]

theorem productLow_eq_ofNat (v w : Word) : productLow v w = BitVec.ofNat 20 (2 * (mag v * mag w % 2 ^ 19)) := by
  rw [productLow, product, magnitude_eq_mag, magnitude_eq_mag, Nat.shiftLeft_eq, Nat.mul_comm _ (2 ^ 1)]
  exact congrArg (fun n => BitVec.ofNat 20 (2 * n)) (Nat.and_two_pow_sub_one_eq_mod _ 19)

/-- The high word has the product's sign and the top product bits as its magnitude (R159, R160). -/
theorem neg_productHigh (v w : Word) : neg (productHigh v w) = (neg v ^^ neg w) := by
  have hlt := mag_mul_mag_div_lt v w
  rw [productHigh_eq_ofNat, neg, BitVec.toNat_ofNat]
  by_cases h : neg v = neg w
  · rw [if_pos h, h, Bool.xor_self, decide_eq_false_iff_not]
    omega
  · have hxor : (neg v ^^ neg w) = true := by simpa using h
    rw [if_neg h, hxor, decide_eq_true_eq]
    omega

theorem mag_productHigh (v w : Word) : mag (productHigh v w) = mag v * mag w / 2 ^ 19 := by
  have hlt := mag_mul_mag_div_lt v w
  rw [productHigh_eq_ofNat, mag, BitVec.toNat_ofNat]
  split <;> omega

theorem productLow_toNat_div_two (v w : Word) : (productLow v w).toNat / 2 = mag v * mag w % 2 ^ 19 := by
  rw [productLow_eq_ofNat, BitVec.toNat_ofNat]
  omega

theorem exec_dstMpy (a : Addr) (r : SrcOp) (s : State) :
    exec (.dstMpy a r) s = .next { seenBy r s with
      acc := add20 (accAfter r s) (productHigh (operand r a s) s.aux)
      mul := productLow (operand r a s) s.aux } :=
  exec_eq_writeDest (.dstMpy a r) s

/-- Settles O30: the high word, as the sum it is, goes into `Acc`, and the low word into `Mul`. -/
theorem multiplyAccumulates : Obligations.MultiplyAccumulates := by
  intro a r s
  rw [exec_dstMpy, productHigh_eq_ofNat, productLow_eq_ofNat, add20_ofNat, Nat.add_assoc]

/-- Settles O31: `Acc` is left as the high word itself, and the quotient by `2^19` there and the remainder in `Mul` make
up the product. -/
theorem multiplyFromZeroHoldsTheWholeProduct : Obligations.MultiplyFromZeroHoldsTheWholeProduct := by
  intro a r s hacc
  have hsum (w : Word) : add20 (accAfter r s) w = w := by
    rw [hacc]
    exact BitVec.zero_add w
  rw [exec_dstMpy, hsum]
  refine ⟨_, rfl, neg_productHigh _ _, mag_productHigh _ _, ?_⟩
  rw [mag_productHigh, productLow_toNat_div_two, Nat.mul_comm]
  exact Nat.div_add_mod _ _

/-! ## Combined shift -/

theorem shiftCount_eq (v : Word) : shiftCount v = v.toNat / 2 ^ 11 % 16 + 1 := by
  have hmask : (hi v >>> 1 &&& 0xF).toNat = (hi v >>> 1).toNat % 16 := Nat.and_two_pow_sub_one_eq_mod _ 4
  rw [shiftCount, hmask, BitVec.toNat_ushiftRight, hi_toNat, Nat.shiftRight_eq_div_pow, Nat.div_div_eq_div_mul]
  rfl

/-- A register of the rotated pair takes the other's top `n` bits in at its low end (R161). -/
theorem getLsbD_rotateFirst {n i : Nat} (hn : n ≤ 20) (hi : i < 20) (x y : Word) :
    (rotateFirst n x y).getLsbD i = if i < n then y.getLsbD (20 - n + i) else x.getLsbD (i - n) := by
  rw [rotateFirst, BitVec.getLsbD_or, BitVec.getLsbD_shiftLeft, BitVec.getLsbD_ushiftRight]
  split
  case isTrue hin => simp [hin]
  case isFalse hin =>
    have hout : 20 ≤ 20 - n + i := by omega
    simp [hin, hi, BitVec.getLsbD_of_ge y _ hout]

/-- The two registers together are the pair rotated, bit by bit: the low register, then the high one, each with the bits
it takes in and the bits it keeps (R161). -/
theorem rotateFirst_append_rotateFirst {n : Nat} (hn : n ≤ 20) (x y : Word) :
    rotateFirst n x y ++ rotateFirst n y x = (x ++ y).rotateLeft n := by
  have hmod : n % (20 + 20) = n := Nat.mod_eq_of_lt (by omega)
  refine BitVec.eq_of_getLsbD_eq fun i hi => ?_
  rw [BitVec.getLsbD_append, BitVec.getLsbD_rotateLeft, hmod, BitVec.getLsbD_append, BitVec.getLsbD_append]
  rcases Nat.lt_or_ge i 20 with hlow | hhigh
  · rw [if_pos hlow, getLsbD_rotateFirst hn hlow]
    by_cases hin : i < n
    · have hbit : 20 + 20 - n + i = 20 + (20 - n + i) := by omega
      simp [hin, hbit]
    · have hkept : i - n < 20 := by omega
      simp [hin, hi, hkept]
  · have hi' : i - 20 < 20 := by omega
    have hni : ¬ i < n := by omega
    rw [if_neg (Nat.not_lt_of_ge hhigh), getLsbD_rotateFirst hn hi']
    by_cases hin : i - 20 < n
    · have hbit : 20 - n + (i - 20) = i - n := by omega
      have htaken : i - n < 20 := by omega
      simp [hin, hni, hi, hbit, htaken]
    · have hbit : i - 20 - n = i - n - 20 := by omega
      have hkept : ¬ i - n < 20 := by omega
      simp [hin, hni, hi, hbit, hkept]

/-- Bit 20 of the value decides whether the combined shifter does anything (R161). -/
theorem exec_dstShl (a : Addr) (r : SrcOp) (s : State) :
    exec (.dstShl a r) s = .next (if 2 ^ 19 ≤ (operand r a s).toNat then { seenBy r s with
        acc := rotateFirst (shiftCount (operand r a s)) (accAfter r s) s.mul
        mul := rotateFirst (shiftCount (operand r a s)) s.mul (accAfter r s) }
      else seenBy r s) := by
  have hsign : sign (operand r a s) = decide (2 ^ 19 ≤ (operand r a s).toNat) := sign_eq_neg _
  refine (exec_eq_writeDest (.dstShl a r) s).trans ?_
  change destShl a (operand r a s) (seenBy r s) = _
  simp only [destShl, hsign, decide_eq_true_eq]
  rfl

/-- Settles O32: the sign of the value decides, and the two registers, each given by `rotateFirst`, are the halves of the
rotated pair. -/
theorem combinedShiftRotatesAccMul : Obligations.CombinedShiftRotatesAccMul := by
  intro a r s
  rw [exec_dstShl, ← shiftCount_eq]
  refine ⟨fun h => by rw [if_neg (Nat.not_le_of_lt h)], fun h => ?_⟩
  rw [if_pos h]
  have hcount : shiftCount (operand r a s) ≤ 20 := by
    rw [shiftCount_eq]
    omega
  exact ⟨_, _, rfl, rotateFirst_append_rotateFirst hcount _ _⟩

end Sys2Proof.Machine
end

section
/-! SUPPORT. The destinations that change the flow (43_dest_control.md R171 to R175): the jumps, the skip, the instruction
modify and the stop as arithmetic on `S`, `I` and the value, and the four statements about them. -/

set_option autoImplicit false

open Sys2Proof Sys2Proof.Machine Sys2Proof.Spec

namespace Sys2Proof.Machine

/-! ## Jumps -/

/-- A new `S` with the fetch from it, the effect that destinations 23, 24 and 25 share (R171 to R173). -/
theorem fetch_setSeq_eq (s : State) (q : Word) :
    fetch (s.setSeq q) = { s with seq := q, ir := s.main.read (q.toNat / 2 ^ 10) } := by
  rw [fetch_setSeq, hi_toNat]
  rfl

/-- The same effect, with the new `S` given as a number. -/
theorem fetch_setSeq_of_toNat_eq {q : Word} {n : Nat} (h : q.toNat = n) (s : State) :
    fetch (s.setSeq q) = { s with seq := BitVec.ofNat 20 n, ir := s.main.read (n / 2 ^ 10) } := by
  rw [fetch_setSeq_eq, ← h, BitVec.ofNat_toNat, BitVec.setWidth_eq]

/-- What is added to the `S` that a destination sees comes on top of the unit of the step itself (R183). -/
theorem seenBy_seq_add_toNat (r : SrcOp) (s : State) (w : Word) :
    ((seenBy r s).seq + w).toNat = (s.seq.toNat + 0x00400 + w.toNat) % 2 ^ 20 := by
  have hadvanced : (seenBy r s).seq.toNat = (s.seq.toNat + 0x00400) % 2 ^ 20 := BitVec.toNat_add s.seq unit
  rw [BitVec.toNat_add, hadvanced, Nat.mod_add_mod]

/-- Settles O33: each jump is a new `S` with the fetch from it; the relative one adds to the `S` that has advanced. -/
theorem jumpsSetSAndFetch : Obligations.JumpsSetSAndFetch := by
  intro a r s
  constructor
  · exact (exec_eq_writeDest (.dstJmp a r) s).trans (congrArg _ (fetch_setSeq_eq _ _))
  · exact (exec_eq_writeDest (.dstJRel a r) s).trans
      (congrArg _ (fetch_setSeq_of_toNat_eq (seenBy_seq_add_toNat r s _) _))

/-! ## Skip -/

/-- Bits 11..1 are the remainder by `2^11` (R173). -/
theorem lowRangeSet_eq (v : Word) : lowRangeSet v = !decide (v.toNat % 2 ^ 11 = 0) := by
  have hmask : (v &&& 0x007FF).toNat = v.toNat % 2 ^ 11 := Nat.and_two_pow_sub_one_eq_mod v.toNat 11
  rw [lowRangeSet, ← hmask, ← decide_not, decide_eq_decide]
  exact not_congr BitVec.toNat_eq

/-- Bits 20..15, in their place, are the quotient by `2^14` (R173). -/
theorem highRangeSet_eq (v : Word) : highRangeSet v = !decide (v.toNat / 2 ^ 14 = 0) := by
  have hshifts : v >>> 14 <<< 14 = v &&& 0xFC000 := BitVec.shiftLeft_ushiftRight
  have hmask : (v &&& 0xFC000).toNat = v.toNat / 2 ^ 14 * 2 ^ 14 := by
    have hv := v.isLt
    rw [← hshifts, shiftRight_eq_ofNat, shiftLeft_eq_ofNat, BitVec.toNat_ofNat, BitVec.toNat_ofNat]
    omega
  have hzero : v &&& 0xFC000 = 0 ↔ v.toNat / 2 ^ 14 = 0 := by
    rw [BitVec.toNat_eq, hmask]
    exact Nat.mul_eq_zero.trans (or_iff_left (by decide))
  rw [highRangeSet, ← decide_not, decide_eq_decide]
  exact not_congr hzero

theorem toNat_not_decide (p : Prop) [Decidable p] : (!decide p).toNat = if p then 0 else 1 := by
  split <;> simp [*]

/-- How many units destination 25 adds to the `S` it sees. -/
def skipUnits (v : Word) : Nat := (lowRangeSet v).toNat + (highRangeSet v).toNat

/-- With the step's own unit, the units of a skip are one, and one for each range that is not all zero. -/
theorem one_add_skipUnits (v : Word) :
    1 + skipUnits v = 1 + (if v.toNat % 2 ^ 11 = 0 then 0 else 1) + (if v.toNat / 2 ^ 14 = 0 then 0 else 1) := by
  rw [skipUnits, lowRangeSet_eq, highRangeSet_eq, toNat_not_decide, toNat_not_decide, Nat.add_assoc]

theorem advanceIf_eq_setSeq_add (c : Bool) (s : State) :
    advanceIf c s = s.setSeq (s.seq + BitVec.ofNat 20 (0x00400 * c.toNat)) := by
  cases c with
  | false => exact congrArg s.setSeq (BitVec.add_zero s.seq).symm
  | true => rfl

/-- The two conditional advances are one new `S`. -/
theorem destSkip_eq (a : Addr) (v : Word) (s : State) :
    destSkip a v s = .next (fetch (s.setSeq (s.seq + BitVec.ofNat 20 (0x00400 * skipUnits v)))) := by
  rw [skipUnits, Nat.mul_add, BitVec.ofNat_add, ← BitVec.add_assoc, destSkip, advanceIf_eq_setSeq_add,
    advanceIf_eq_setSeq_add]
  rfl

/-- Settles O34: the step's own unit and one for each range that is set make up the new `S`, and the fetch is from it. -/
theorem skipAddsOneUnitForEachRange : Obligations.SkipAddsOneUnitForEachRange := by
  intro a r s v units target
  have htarget : ((seenBy r s).seq + BitVec.ofNat 20 (0x00400 * skipUnits (operand r a s))).toNat = target := by
    rw [seenBy_seq_add_toNat, BitVec.toNat_ofNat, Nat.add_mod_mod, Nat.add_assoc,
      ← mul_one_add, one_add_skipUnits]
  exact (exec_eq_writeDest (.dstSkip a r) s).trans
    ((destSkip_eq a _ _).trans (congrArg _ (fetch_setSeq_of_toNat_eq htarget _)))

/-! ## Instruction modify -/

/-- A word shifted by ten places is a multiple of `2^10`, so adding it changes the address field alone (R174, D15). -/
theorem add20_shiftLeft_fields (w v : Word) :
    (add20 w (v <<< 10)).toNat / 2 ^ 10 = (w.toNat / 2 ^ 10 + v.toNat % 2 ^ 10) % 2 ^ 10 ∧
    (add20 w (v <<< 10)).toNat % 2 ^ 10 = w.toNat % 2 ^ 10 := by
  rw [shiftLeft_eq_ofNat, add20_ofNat, BitVec.toNat_ofNat]
  constructor <;> omega

/-- Settles O35: the new `I` is the sum of the staged word and the value shifted by ten places. -/
theorem instructionModifyAddsIntoTheAddressField : Obligations.InstructionModifyAddsIntoTheAddressField := by
  intro a r s
  exact ⟨_, exec_eq_writeDest (.dstIMod a r) s, add20_shiftLeft_fields _ _⟩

/-! ## Stop -/

theorem stopRequested_eq (v : Word) : stopRequested v = !decide (v.toNat = 0) := by
  rw [stopRequested, ← decide_not, decide_eq_decide]
  exact not_congr BitVec.toNat_eq

theorem exec_dstStop (a : Addr) (r : SrcOp) (s : State) :
    exec (.dstStop a r) s =
      .next (if stopRequested (operand r a s) then signalStop (seenBy r s) else seenBy r s) :=
  exec_eq_writeDest (.dstStop a r) s

/-- Settles O36: the value is not zero exactly when its number is not, and the run state is all that a stop writes. -/
theorem stopHaltsOnANonZeroValue : Obligations.StopHaltsOnANonZeroValue := by
  intro a r s
  rw [exec_dstStop, stopRequested_eq]
  by_cases hv : (operand r a s).toNat = 0
  · rw [if_pos hv, decide_eq_true hv]
    rfl
  · rw [if_neg hv, decide_eq_false hv]
    rfl

end Sys2Proof.Machine
end

section
/-! SUPPORT. The cycle (44_cycle.md R181 to R192): what keeps an instruction from completing, that a step is its
instruction and then the host's turn, that the run mode is no part of it, and how a run ends; and the statements about
them. -/

set_option autoImplicit false

open Sys2Proof Sys2Proof.Machine Sys2Proof.Spec

namespace Sys2Proof.Machine

/-! ## One instruction -/

/-- Settles O6: the source operation, the advance and the fetch together give the state that the destination sees. -/
theorem instructionRunsInTheOrderOfTheSpec : Obligations.InstructionRunsInTheOrderOfTheSpec := exec_eq_writeDest

/-- A blocked port gives its instruction no next state (R205). -/
theorem exec_of_takes_zero {i : Instr} {p : Port} {s : State} (hp : portOf i.dstOp = some p)
    (hport : s.ports.get p = .takes 0) : exec i s = .fault (.portBlocked p) := by
  obtain ⟨-, -, hblocked⟩ := emits_of_portOf hp s
  exact hblocked hport

/-- Settles O7: a destination whose port is ready completes in the state it sees, and one whose port blocks does not. -/
theorem everyInstructionCompletesUnlessItsPortBlocks : Obligations.EveryInstructionCompletesUnlessItsPortBlocks := by
  intro i s
  exact ⟨fun hport => handsOver hport rfl rfl, fun p => exec_of_takes_zero⟩

theorem sink_eq_takes_zero {k : Sink} (h : Sink.ready k = false) : k = .takes 0 := by
  unfold Sink.ready at h
  split at h
  · rfl
  · cases h

theorem portReady_eq_false {d : DstOp} {s : State} (h : portReady d s = false) :
    ∃ p, portOf d = some p ∧ s.ports.get p = .takes 0 := by
  unfold portReady at h
  split at h
  case h_1 p hp => exact ⟨p, hp, sink_eq_takes_zero h⟩
  case h_2 => cases h

/-- An instruction completes, or the port of its own destination blocks (R186, R205). -/
theorem exec_completes_or_blocks (i : Instr) (s : State) :
    (∃ t, exec i s = .next t) ∨
    ∃ p, portOf i.dstOp = some p ∧ s.ports.get p = .takes 0 ∧ exec i s = .fault (.portBlocked p) := by
  cases hport : portReady i.dstOp s with
  | true =>
    obtain ⟨t, -, ht⟩ := handsOver hport rfl rfl
    exact .inl ⟨t, ht⟩
  | false =>
    obtain ⟨p, hp, hsink⟩ := portReady_eq_false hport
    exact .inr ⟨p, hp, hsink, exec_of_takes_zero hp hsink⟩

/-- Settles O9: the two outcomes of an instruction are a next state and the fault of its own port. -/
theorem onlyABlockedPortStopsAnInstruction : Obligations.OnlyABlockedPortStopsAnInstruction := by
  intro i s
  rcases exec_completes_or_blocks i s with ⟨t, ht⟩ | ⟨p, hp, hsink, hfault⟩
  · simp [ht]
  · rw [hfault]
    refine ⟨fun r hr => ?_, fun e he => ?_⟩
    · cases hr
    · cases he
      exact ⟨p, rfl, hp, hsink⟩

/-! ## One step -/

theorem stepWith_of_stopped (f : Nat → HostInputs) {s : State} (hs : s.run = .stopped) :
    stepWith f s = .fault .stopped := by
  rw [stepWith, hs]

/-- Settles O8: a step looks at the run state before anything else. -/
theorem stoppedMachineTakesNoStep : Obligations.StoppedMachineTakesNoStep := by
  intro s hs
  have hstep : step s = .fault .stopped := stepWith_of_stopped Config.hostInputSchedule hs
  simp [hstep]

theorem stepWith_of_exec_next {f : Nat → HostInputs} {s t : State} (hrun : s.run = .running)
    (h : exec (decode s.ir) s = .next t) : stepWith f s = .next (hostBetweenSteps f t) := by
  rw [stepWith, hrun, h]

theorem stepWith_of_exec_fault {f : Nat → HostInputs} {s : State} {e : Fault} (hrun : s.run = .running)
    (h : exec (decode s.ir) s = .fault e) : stepWith f s = .fault e := by
  rw [stepWith, hrun, h]

theorem hostBetweenSteps_of_stopped_or_keep (f : Nat → HostInputs) {s : State}
    (h : s.run = .stopped ∨ s.schedule = .keep) : hostBetweenSteps f s = s := by
  rcases hostBetweenSteps_cases f s with ⟨hrun, ⟨_, _, hl, -⟩ | ⟨_, hl, -⟩⟩ | ⟨-, he⟩
  · simp [hrun, hl] at h
  · simp [hrun, hl] at h
  · exact he

theorem hostBetweenSteps_of_given (f : Nat → HostInputs) {s : State} {x : HostInputs} {l : InputSchedule}
    (hrun : s.run = .running) (h : s.schedule = .given x l) : hostBetweenSteps f s = withInputs s x l := by
  rw [hostBetweenSteps, hrun, h]
  rfl

theorem hostBetweenSteps_of_parameter (f : Nat → HostInputs) {s : State} {k : Nat}
    (hrun : s.run = .running) (h : s.schedule = .parameter k) :
    hostBetweenSteps f s = withInputs s (f k) (.parameter (k + 1)) := by
  rw [hostBetweenSteps, hrun, h]
  rfl

theorem stepsAs_stepWith (f : Nat → HostInputs) : StepsAs f (stepWith f) := by
  rintro s i hrun rfl
  refine ⟨fun t ht => ?_, fun e => stepWith_of_exec_fault hrun⟩
  rw [stepWith_of_exec_next hrun ht]
  exact ⟨fun h => congrArg _ (hostBetweenSteps_of_stopped_or_keep f h),
    fun x l ht hl => congrArg _ (hostBetweenSteps_of_given f ht hl),
    fun k ht hk => congrArg _ (hostBetweenSteps_of_parameter f ht hk)⟩

/-- Settles O5: `step` is `stepWith` under the open parameter, and what the host does after the instruction depends on
its schedule. -/
theorem stepRunsTheDecodedInstruction : Obligations.StepRunsTheDecodedInstruction :=
  ⟨stepsAs_stepWith Config.hostInputSchedule, stepsAs_stepWith⟩

/-! ## A machine whose ports take every word -/

theorem neverBlocks_iff (s : State) :
    neverBlocks s = true ↔ ∀ p, s.ports.get p = .unconnected ∨ s.ports.get p = .takesAll := by
  simp only [neverBlocks, List.all_cons, List.all_nil, Bool.and_true, Bool.and_eq_true, Bool.or_eq_true,
    decide_eq_true_iff]
  constructor
  · rintro ⟨hconsole, hpunch, hspeaker⟩ (_ | _ | _)
    · exact hconsole
    · exact hpunch
    · exact hspeaker
  · exact fun h => ⟨h .console, h .punch, h .speaker⟩

theorem neverBlocks_congr {s t : State} (h : t.ports = s.ports) : neverBlocks t = neverBlocks s := by
  rw [neverBlocks, neverBlocks, h]

/-- An emission on a port that is unconnected or takes every word leaves it so (R204). -/
theorem emit_ports {p : Port} {v : Word} {s t : State} (hs : neverBlocks s = true) (h : emit p v s = .next t) :
    t.ports = s.ports := by
  have hp := (neverBlocks_iff s).mp hs p
  rcases emit_cases p v s with ⟨-, he⟩ | ⟨-, he⟩ | ⟨-, he⟩ | ⟨n, htakes, -⟩
  · cases he.symm.trans h
    rfl
  · cases he.symm.trans h
    rfl
  · cases he.symm.trans h
  · simp [htakes] at hp

theorem exec_ports {i : Instr} {s t : State} (hs : neverBlocks s = true) (h : exec i s = .next t) :
    t.ports = s.ports := by
  rcases exec_hostSide h with hside | ⟨p, u, -, hside, hemit⟩
  · exact congrArg HostSide.ports hside
  · have hu : u.ports = s.ports := congrArg HostSide.ports hside
    exact (emit_ports ((neverBlocks_congr hu).trans hs) hemit).trans hu

theorem exec_of_neverBlocks (i : Instr) {s : State} (hs : neverBlocks s = true) :
    ∃ t, exec i s = .next t ∧ t.ports = s.ports := by
  rcases exec_completes_or_blocks i s with ⟨t, ht⟩ | ⟨p, -, hsink, -⟩
  · exact ⟨t, ht, exec_ports hs ht⟩
  · have hp := (neverBlocks_iff s).mp hs p
    simp [hsink] at hp

@[simp] theorem hostBetweenSteps_ports (f : Nat → HostInputs) (s : State) :
    (hostBetweenSteps f s).ports = s.ports := by
  obtain ⟨i, l, h⟩ := hostBetweenSteps_eq f s
  simp [h]

/-- Settles O10: neither the instruction nor the host changes ports that take every word. -/
theorem runningMachineWithWillingPortsAlwaysSteps : Obligations.RunningMachineWithWillingPortsAlwaysSteps := by
  intro s hrun hs
  obtain ⟨t, ht, hports⟩ := exec_of_neverBlocks (decode s.ir) hs
  refine ⟨_, stepWith_of_exec_next hrun ht, ?_⟩
  rw [neverBlocks_congr (hostBetweenSteps_ports _ t), neverBlocks_congr hports, hs]

/-! ## The run mode -/

/-- The outcome with the run mode replaced in its next state, if it has one. -/
def resultWithRunMode (m : RunMode) : Result → Result
  | .next t => .next (t.setRunMode m)
  | .fault e => .fault e
  | .refused r => .refused r

section
variable (m : RunMode)

theorem operand_setRunMode (r : SrcOp) (a : Addr) (s : State) : operand r a (s.setRunMode m) = operand r a s := by
  cases r <;> rfl

theorem seenBy_setRunMode (r : SrcOp) (s : State) : seenBy r (s.setRunMode m) = (seenBy r s).setRunMode m := rfl

theorem emit_setRunMode (p : Port) (v : Word) (s : State) :
    emit p v (s.setRunMode m) = resultWithRunMode m (emit p v s) := by
  rw [emit, emit, State.setRunMode_ports]
  rcases s.ports.get p with _ | _ | _ | n <;> rfl

theorem advanceIf_setRunMode (c : Bool) (s : State) :
    advanceIf c (s.setRunMode m) = (advanceIf c s).setRunMode m := by
  cases c <;> rfl

/-- No destination operation reads the run mode or writes it (R187). -/
theorem writeDest_setRunMode (d : DstOp) (a : Addr) (v : Word) (s : State) :
    writeDest d a v (s.setRunMode m) = resultWithRunMode m (writeDest d a v s) := by
  cases d with
  | print | punch | speak => exact emit_setRunMode m _ v s
  | shl | stop =>
    refine congrArg Host.Outcome.next ?_
    split <;> rfl
  | skip =>
    refine congrArg Host.Outcome.next ?_
    rw [advanceIf_setRunMode, advanceIf_setRunMode]
    rfl
  | _ => rfl

theorem exec_setRunMode (i : Instr) (s : State) : exec i (s.setRunMode m) = resultWithRunMode m (exec i s) := by
  rw [exec_eq_writeDest, exec_eq_writeDest, operand_setRunMode, seenBy_setRunMode, writeDest_setRunMode]

theorem hostBetweenSteps_setRunMode (f : Nat → HostInputs) (s : State) :
    hostBetweenSteps f (s.setRunMode m) = (hostBetweenSteps f s).setRunMode m := by
  rw [hostBetweenSteps, hostBetweenSteps, State.setRunMode_run, State.setRunMode_schedule]
  split <;> rfl

theorem stepWith_setRunMode (f : Nat → HostInputs) (s : State) :
    stepWith f (s.setRunMode m) = resultWithRunMode m (stepWith f s) := by
  rw [stepWith, stepWith, State.setRunMode_run, State.setRunMode_ir, exec_setRunMode]
  cases s.run with
  | stopped => rfl
  | running =>
    rcases exec (decode s.ir) s with t | e | r
    · exact congrArg Host.Outcome.next (hostBetweenSteps_setRunMode m f t)
    · rfl
    · rfl

end

/-- Settles O47: instruction and host pass the mode through unread. -/
theorem runModeNeverChangesAStep : Obligations.RunModeNeverChangesAStep := by
  intro s t m
  have hstep : step { s with runMode := m } = resultWithRunMode m (step s) := stepWith_setRunMode m _ s
  rw [hstep]
  exact ⟨fun h => congrArg (resultWithRunMode m) h, fun e h => congrArg (resultWithRunMode m) h⟩

/-! ## The moments of a run -/

/-- Settles O48: the mode and the tick decide between the step and the wait. -/
theorem pacedModeTakesOneStepPerTick : Obligations.PacedModeTakesOneStepPerTick := by
  intro f s tick
  unfold clock
  refine ⟨fun hfree => ?_, fun hpaced => ⟨?_, ?_⟩⟩
  · rw [hfree]
  · rw [hpaced]
  · rw [hpaced]

/-- A moment finds a stopped machine stopped, or is the wait of a paced one. -/
theorem clock_of_stopped (f : Nat → HostInputs) (tick : Bool) {s : State} (hs : s.run = .stopped) :
    clock f tick s = .fault .stopped ∨ clock f tick s = .next s := by
  unfold clock
  split
  · exact .inl (stepWith_of_stopped f hs)
  · exact .inl (stepWith_of_stopped f hs)
  · exact .inr rfl

/-- A moment that faults is a step that does; the wait of a paced machine never faults. -/
theorem clock_fault {f : Nat → HostInputs} {tick : Bool} {s : State} {e : Fault} (h : clock f tick s = .fault e) :
    stepWith f s = .fault e := by
  unfold clock at h
  split at h
  · exact h
  · exact h
  · cases h

/-! ## How a run ends -/

/-- What the end of a run says about the state it leaves (R185, R188, R190, R205). -/
inductive EndsAs (f : Nat → HostInputs) : RunResult → Prop where
  | stopped {s : State} (hs : s.run = .stopped) : EndsAs f ⟨.stoppedNormally, s⟩
  | abandoned {s : State} (hs : s.run = .running) (hm : s.runMode = .paced) : EndsAs f ⟨.abandoned, s⟩
  | notWithinBound {s : State} (hs : s.run = .running) : EndsAs f ⟨.notWithinBound, s⟩
  | stuck {s : State} {p : Port} (hstep : stepWith f s = .fault (.portBlocked p)) : EndsAs f ⟨.stuck p, s⟩

theorem running_of_portBlocked {f : Nat → HostInputs} {s : State} {p : Port}
    (h : stepWith f s = .fault (.portBlocked p)) : s.run = .running := by
  rcases stepWith_cases f s with ⟨-, hs⟩ | ⟨hrun, -⟩
  · cases hs.symm.trans h
  · exact hrun

/-- After one moment the run goes on from the next state, or has ended where it stands, whatever moments follow. -/
theorem runOver_cons_cases (f : Nat → HostInputs) (tick : Bool) (s : State) :
    (∃ t, ∀ rest, runOver f (tick :: rest) s = runOver f rest t) ∨
    ∃ e, EndsAs f ⟨e, s⟩ ∧ ∀ rest, runOver f (tick :: rest) s = ⟨e, s⟩ := by
  rcases clock_outcome f tick s with ⟨t, h⟩ | ⟨hs, h⟩ | ⟨p, h⟩
  · exact .inl ⟨t, fun rest => by rw [runOver, h]⟩
  · exact .inr ⟨.stoppedNormally, .stopped hs, fun rest => by rw [runOver, h]⟩
  · exact .inr ⟨.stuck p, .stuck (clock_fault h), fun rest => by rw [runOver, h]⟩

theorem runOver_endsAs (f : Nat → HostInputs) (ts : List Bool) (s : State) : EndsAs f (runOver f ts s) := by
  induction ts generalizing s with
  | nil =>
    unfold runOver
    split
    case h_1 hs => exact .stopped hs
    case h_2 hs hm => exact .abandoned hs hm
    case h_3 hs hm => exact .notWithinBound hs
  | cons tick rest ih =>
    rcases runOver_cons_cases f tick s with ⟨t, h⟩ | ⟨e, he, h⟩
    · rw [h]
      exact ih t
    · rw [h]
      exact he

namespace EndsAs

section
variable {f : Nat → HostInputs} {r : RunResult} (h : EndsAs f r)
include h

theorem stoppedNormally_iff : r.ending = .stoppedNormally ↔ r.final.run = .stopped := by
  cases h with
  | stopped hs | abandoned hs | notWithinBound hs => simp [hs]
  | stuck hstep => simp [running_of_portBlocked hstep]

theorem of_abandoned (hr : r.ending = .abandoned) : r.final.run = .running ∧ r.final.runMode = .paced := by
  cases h with
  | abandoned hs hm => exact ⟨hs, hm⟩
  | _ => cases hr

theorem of_stuck {p : Port} (hr : r.ending = .stuck p) : stepWith f r.final = .fault (.portBlocked p) := by
  cases h with
  | stuck hstep =>
    cases hr
    exact hstep
  | _ => cases hr

theorem ending_ne_refused : r.ending ≠ .refused := by
  intro hr
  cases h <;> cases hr

end

end EndsAs

/-- A run from a stopped machine ends where it begins, in either mode (R185). -/
theorem runOver_of_stopped (f : Nat → HostInputs) (ts : List Bool) {s : State} (hs : s.run = .stopped) :
    runOver f ts s = ⟨.stoppedNormally, s⟩ := by
  induction ts with
  | nil => rw [runOver, hs]
  | cons tick rest ih =>
    rcases clock_of_stopped f tick hs with h | h
    · rw [runOver, h]
    · rw [runOver, h]
      exact ih

theorem runOver_append_of_stopped {f : Nat → HostInputs} {ts : List Bool} {s : State} (us : List Bool)
    (hs : (runOver f ts s).final.run = .stopped) : runOver f (ts ++ us) s = runOver f ts s := by
  induction ts generalizing s with
  | nil =>
    rw [runOver_nil_final] at hs
    rw [List.nil_append, runOver_of_stopped f us hs, runOver_of_stopped f [] hs]
  | cons tick rest ih =>
    rcases runOver_cons_cases f tick s with ⟨t, h⟩ | ⟨e, -, h⟩
    · rw [h] at hs
      rw [List.cons_append, h, h, ih hs]
    · rw [List.cons_append, h, h]

/-- Settles O57: a run ends normally exactly in a stopped machine, which more moments leave as it is. -/
theorem stoppedRunIsFinal : Obligations.StoppedRunIsFinal := by
  intro f ts us s
  have hiff := (runOver_endsAs f ts s).stoppedNormally_iff
  exact ⟨hiff, fun h => runOver_append_of_stopped us (hiff.mp h)⟩

/-- Settles O58: the run ends in one of the ways that `EndsAs` lists, each with what it says of the state. -/
theorem abandonedAndStuckRuns : Obligations.AbandonedAndStuckRuns := by
  intro f ts s
  have hends := runOver_endsAs f ts s
  exact ⟨hends.of_abandoned, fun p => hends.of_stuck, hends.ending_ne_refused⟩

end Sys2Proof.Machine
end

section
/-! SUPPORT. A machine without ports (60_exceptions.md R143, R204): no instruction reads the ports or the output but to
emit, so a step that completes also completes with every port unconnected; and the statement about it. -/

set_option autoImplicit false

open Sys2Proof Sys2Proof.Machine Sys2Proof.Spec

namespace Sys2Proof.Machine

/-- The state with every port unconnected and the output history `l`. -/
def State.unplugged (s : State) (l : List PortEvent) : State :=
  { s with ports := ⟨.unconnected, .unconnected, .unconnected⟩, output := l }

theorem get_ports_unplugged (s : State) (l : List PortEvent) (p : Port) :
    (s.unplugged l).ports.get p = .unconnected := by
  cases p <;> rfl

section
variable (l : List PortEvent)

theorem operand_unplugged (r : SrcOp) (a : Addr) (s : State) : operand r a (s.unplugged l) = operand r a s := by
  cases r <;> rfl

theorem seenBy_unplugged (r : SrcOp) (s : State) : seenBy r (s.unplugged l) = (seenBy r s).unplugged l := rfl

/-- An emission that completes changes nothing but the ports and the output, and on an unconnected port it changes
nothing at all (R204). -/
theorem emit_unplugged {p : Port} {v : Word} {s t : State} (h : emit p v s = .next t) :
    emit p v (s.unplugged l) = .next (t.unplugged l) := by
  have hsame : t.unplugged l = s.unplugged l := by
    rcases emit_cases p v s with ⟨-, he⟩ | ⟨-, he⟩ | ⟨-, he⟩ | ⟨n, -, he⟩ <;> cases he.symm.trans h <;> rfl
  rw [hsame]
  exact emit_of_unconnected (get_ports_unplugged s l p) v

theorem advanceIf_unplugged (c : Bool) (s : State) :
    advanceIf c (s.unplugged l) = (advanceIf c s).unplugged l := by
  cases c <;> rfl

/-- Only an emission reads the ports or the output, and it decides nothing else (R204). -/
theorem writeDest_unplugged {d : DstOp} {a : Addr} {v : Word} {s t : State} (h : writeDest d a v s = .next t) :
    writeDest d a v (s.unplugged l) = .next (t.unplugged l) := by
  cases d with
  | print | punch | speak => exact emit_unplugged l h
  | shl | stop =>
    obtain rfl := Host.Outcome.next.inj h
    refine congrArg Host.Outcome.next ?_
    split <;> rfl
  | skip =>
    obtain rfl := Host.Outcome.next.inj h
    refine congrArg Host.Outcome.next ?_
    rw [advanceIf_unplugged, advanceIf_unplugged]
    rfl
  | _ => cases h; rfl

theorem exec_unplugged {i : Instr} {s t : State} (h : exec i s = .next t) :
    exec i (s.unplugged l) = .next (t.unplugged l) := by
  rw [exec_eq_writeDest] at h ⊢
  rw [operand_unplugged, seenBy_unplugged]
  exact writeDest_unplugged l h

theorem hostBetweenSteps_unplugged (f : Nat → HostInputs) (s : State) :
    hostBetweenSteps f (s.unplugged l) = (hostBetweenSteps f s).unplugged l := by
  have hrun : (s.unplugged l).run = s.run := rfl
  have hschedule : (s.unplugged l).schedule = s.schedule := rfl
  rw [hostBetweenSteps, hostBetweenSteps, hrun, hschedule]
  split <;> rfl

theorem stepWith_unplugged {f : Nat → HostInputs} {s t : State} (h : stepWith f s = .next t) :
    stepWith f (s.unplugged l) = .next (t.unplugged l) := by
  obtain ⟨hrun, u, hu, rfl⟩ := stepWith_next h
  rw [← hostBetweenSteps_unplugged]
  exact stepWith_of_exec_next hrun (exec_unplugged l hu)

end

/-- Settles O46: with the ports unconnected the instruction completes in the same state outside the ports and the output,
and the host, which looks at neither, goes on from it in the same way. -/
theorem unconnectedPortsChangeOnlyTheOutput : Obligations.UnconnectedPortsChangeOnlyTheOutput := by
  rintro s t _ rfl h
  exact stepWith_unplugged s.output h

end Sys2Proof.Machine
end

section
/-! SUPPORT. The word 0, which moves a cell of the main store onto itself, as the first step after reset or after an
entry at an address (70_reset_and_hazards.md R217, R220); and the statements about it. -/

set_option autoImplicit false

open Sys2Proof Sys2Proof.Machine Sys2Proof.Spec

namespace Sys2Proof.Machine

/-! ## A store written with what it holds -/

theorem Memory.write_read_self {m : Memory} {a : Nat} (hm : m.wf = true) (ha : a < storeSize) :
    m.write a (m.read a) = m := by
  refine Memory.eq_of_read_eq (Memory.wf_write m a _ hm ha) hm fun b _ => ?_
  rw [Memory.read_write]
  split
  case isTrue hb => rw [hb]
  case isFalse => rfl

@[simp] theorem State.setStore_storeOf_self (s : State) (k : StoreId) : s.setStore k (s.storeOf k) = s := by
  cases k <;> rfl

theorem memWrite_memRead_self {s : State} (hs : s.wf = true) (k : StoreId) (a : Addr) :
    memWrite k a (memRead k a s) s = s := by
  rw [memWrite_eq, memRead, Memory.write_read_self ((wf_iff s).1 hs k) (addr_lt_storeSize a),
    State.setStore_storeOf_self]

theorem memRead_seenBy (r : SrcOp) (k : StoreId) (a : Addr) (s : State) :
    memRead k a (seenBy r s) = memRead k a s := by
  rw [memRead, memRead, seenBy_storeOf]

/-! ## The word 0 -/

/-- The word 0 stores the word of `M[0]` at `M[0]`; the advance and the default fetch are those of every instruction
(R217, R181). -/
theorem exec_decode_zero (s : State) :
    exec (decode 0) s = .next (memWrite .main 0 (memRead .main 0 s) (seenBy .m s)) :=
  exec_eq_writeDest (.srcM 0 .m) s

theorem step_of_ir_eq_zero {s : State} (hrun : s.run = .running) (hir : s.ir = 0) :
    step s = .next (hostBetweenSteps Config.hostInputSchedule
      (memWrite .main 0 (memRead .main 0 s) (seenBy .m s))) :=
  stepWith_of_exec_next hrun (by rw [hir, exec_decode_zero])

/-- Settles O55: in a canonical store the word 0 writes what stands there, so the step is the advance and the default
fetch alone. -/
theorem firstStepAfterResetOnlyFetches : Obligations.FirstStepAfterResetOnlyFetches := by
  intro s hrun hseq hir hwf hkeep
  have hseen : seenBy .m s = { s with seq := 0x00400, ir := s.main.read 1 } := by
    rw [seenBy, fetched, hseq]
    rfl
  have hstored : memWrite .main 0 (memRead .main 0 s) (seenBy .m s) = seenBy .m s := by
    rw [← memRead_seenBy .m, memWrite_memRead_self ((wf_congr (seenBy_storeOf .m s)).trans hwf)]
  rw [step_of_ir_eq_zero hrun hir, hstored, hseen]
  exact congrArg Host.Outcome.next (hostBetweenSteps_of_stopped_or_keep _ (.inr hkeep))

/-! ## Entering at an address -/

@[simp] theorem hostBetweenSteps_seq (f : Nat → HostInputs) (s : State) : (hostBetweenSteps f s).seq = s.seq := by
  obtain ⟨i, l, h⟩ := hostBetweenSteps_eq f s
  simp [h]

@[simp] theorem hostBetweenSteps_ir (f : Nat → HostInputs) (s : State) : (hostBetweenSteps f s).ir = s.ir := by
  obtain ⟨i, l, h⟩ := hostBetweenSteps_eq f s
  simp [h]

/-- `S` at address `e`: its address field is `e` and the bits below are 0 (R220). -/
def seqAt (e : Addr) : Word := e.setWidth 20 <<< 10

theorem seqAt_toNat (e : Addr) : (seqAt e).toNat = e.toNat * 1024 := by
  have := e.isLt
  rw [seqAt, setWidth_shiftLeft_eq_ofNat, BitVec.toNat_ofNat]
  omega

@[simp] theorem hi_seqAt (e : Addr) : hi (seqAt e) = e := by
  apply BitVec.eq_of_toNat_eq
  rw [hi_toNat, seqAt_toNat]
  omega

@[simp] theorem lo_seqAt (e : Addr) : lo (seqAt e) = 0 := by
  apply BitVec.eq_of_toNat_eq
  rw [lo_toNat, seqAt_toNat]
  exact Nat.mul_mod_left e.toNat 1024

/-- One unit leads from each address to the next, from the last to address 0 (R30, R31). -/
theorem seqAt_sub_one_add_unit (e : Addr) : seqAt (e - 1) + unit = seqAt e := by
  have hbefore : (e - 1).toNat = (e.toNat + 1023) % 1024 := by bv_omega
  have hunit : unit.toNat = 1024 := rfl
  apply BitVec.eq_of_toNat_eq
  rw [BitVec.toNat_add, seqAt_toNat, seqAt_toNat, hbefore, hunit]
  omega

/-- The step of the word 0 brings the word after `S` into `I`, whatever its own store write does. -/
theorem step_of_ir_eq_zero_fetches {s : State} (hrun : s.run = .running) (hir : s.ir = 0) :
    ∃ t, step s = .next t ∧ t.seq = s.seq + unit ∧ t.ir = memRead .main (hi (s.seq + unit)) s := by
  refine ⟨_, step_of_ir_eq_zero hrun hir, ?_, ?_⟩
  · rw [hostBetweenSteps_seq]
    rfl
  · rw [hostBetweenSteps_ir]
    exact congrArg s.main.read (hi_toNat (s.seq + unit)).symm

/-- Settles O56: `S` one unit before `e` advances to `e` and the word there is fetched; `enterAt` sets both. -/
theorem enteringAtAnAddress : Obligations.EnteringAtAnAddress := by
  intro s e hrun
  obtain ⟨t, hstep, hseq, hir⟩ :=
    step_of_ir_eq_zero_fetches (s := (s.setSeq (seqAt (e - 1))).setIr 0) hrun rfl
  rw [State.setIr_seq, State.setSeq_seq, seqAt_sub_one_add_unit] at hseq hir
  rw [hi_seqAt] at hir
  exact ⟨⟨t, hstep, by rw [hseq, hi_seqAt], by rw [hseq, lo_seqAt], hir⟩, hi_seqAt e, rfl⟩

end Sys2Proof.Machine
end
